-- ==== Sys2Proof/Word.lean ====
section
/-! DEFINITION. The widths of HPIR-MITSU: bytes, durations, and the two fixed-length words of
30_encoding.md rule R70. -/

namespace Sys2Proof

/-- One byte: every data value inside the block (00_scope.md R7). -/
abbrev Byte := BitVec 8

/-- A duration in microseconds, 32 bits unsigned (00_scope.md R6, R7). -/
abbrev Micros := BitVec 32

/-- CMD16, the command word (30_encoding.md R71). -/
abbrev CmdWord := BitVec 16

/-- OP128, the op word (30_encoding.md R80). -/
abbrev OpWord := BitVec 128

/-- A word at one of the block's two ports. The word itself does not say its format: the port
does (30_encoding.md R70: no mode bit changes decoding). -/
inductive PortWord where
  /-- A command word at the command port. -/
  | cmd (w : CmdWord)
  /-- An op word at the output port. -/
  | op (w : OpWord)
deriving DecidableEq, Repr

/-- The 18 bytes of a built frame (00_scope.md R12, 20_memory.md R59). -/
abbrev Frame := Vector Byte 18

end Sys2Proof
end

