-- ==== Sys2Proof/Config.lean ====
section
/-! DEFINITION. What an implementation fixes (00_scope.md R6), the values the source fixes, the input
signals of 10_state.md R20, and the free values: opaque constants with no body. -/

namespace Sys2Proof

/-- The device variant (10_state.md R22). -/
inductive Variant where
  /-- VAR = 0, the plain variant: ignores MAINTENANCE. -/
  | plain
  /-- VAR = 1, the supporting variant: honours MAINTENANCE. -/
  | supporting
deriving DecidableEq, Repr, Inhabited

/-- TEMP_RANGE_READING (40_command_translation.md R115, 90_conflicts.md C1). -/
inductive TempRangeReading where
  /-- OPEN_16_32, the default: accepts 17 to 31. -/
  | open16to32
  /-- HALF_OPEN_17_31: a caller's 17 to 30, and 31 from FAN only. -/
  | halfOpen17to31
deriving DecidableEq, Repr, Inhabited

/-- BIT_ORDER, a property of the Pulse Emission Service (20_memory.md R53). -/
inductive BitOrder where
  | lsbFirst
  | msbFirst
deriving DecidableEq, Repr, Inhabited

/-- The parameters of 00_scope.md R6 that the source does not fix. -/
structure Params where
  codePowerOn : Byte
  codePowerOff : Byte
  codeModeAuto : Byte
  codeModeHeat : Byte
  codeModeCool : Byte
  codeModeDry : Byte
  codeFanAuto : Byte
  codeFan1 : Byte
  codeFan2 : Byte
  codeFan3 : Byte
  codeFan4 : Byte
  /-- TEMPLATE as given; entry 15 is not used, `Params.templateFrame` puts 0x40 there (log entry 13). -/
  template : Frame
  hdrMarkUs : Micros
  hdrSpaceUs : Micros
  bitMarkUs : Micros
  zeroSpaceUs : Micros
  oneSpaceUs : Micros
  msgSpaceUs : Micros
  tempRange : TempRangeReading
  bitOrder : BitOrder
deriving DecidableEq, Repr, Inhabited

/-- The input signals of one step (10_state.md R20), `clk` apart: the model is untimed (log entry 19). -/
structure Pins where
  rst : Bool
  cfgVariant : Variant
  cmdValid : Bool
  cmdWord : CmdWord
  opReady : Bool
deriving DecidableEq, Repr, Inhabited

/-! ## Values the source fixes (00_scope.md R6) -/

/-- TEMP_OFFSET. -/
def Config.tempOffset : Byte := 16
/-- TEMP_DEFAULT. -/
def Config.tempDefault : Byte := 23
/-- TEMP_MAINT, the maintenance sentinel. -/
def Config.tempMaint : Byte := 10
/-- TEMP_FAN_FORCED. -/
def Config.tempFanForced : Byte := 31
/-- BYTE15_NORMAL, which is TEMPLATE[15] (41_frame_builder.md R144). -/
def Config.byte15Normal : Byte := 0x40
/-- BYTE15_MAINT. -/
def Config.byte15Maint : Byte := 0x20
/-- CARRIER_KHZ. -/
def Config.carrierKhz : Byte := 40
/-- END_SPACE_US. -/
def Config.endSpaceUs : Micros := 0

/-! ## Free values: nothing constrains them -/

/-- The OPEN parameters of the hardware at hand (00_scope.md R6; log entry 1). -/
opaque Config.openParams : Params

/-- The parameters after reset: free but for TEMP_RANGE_READING, whose default 90_conflicts.md C1
gives (log entry 12). -/
def Config.resetParams : Params :=
  { Config.openParams with tempRange := .open16to32 }

/-- The strap `cfg_variant` as sampled by the reset that State.reset follows (10_state.md R22, R37;
log entry 5). -/
opaque Config.strap : Variant

/-- P after power-up: unspecified (10_state.md R37, R38; log entry 2). -/
opaque Config.powerUpP : Byte
/-- M after power-up: unspecified (10_state.md R37, R38; log entry 2). -/
opaque Config.powerUpM : Byte
/-- F after power-up: unspecified (10_state.md R37, R38; log entry 2). -/
opaque Config.powerUpF : Byte
/-- T after power-up: unspecified (10_state.md R37, R38; log entry 2). -/
opaque Config.powerUpT : Byte

/-- The inputs of step number n where no script gives them: any host, any service
(93_implementation_defined.md I15; log entry 4). -/
opaque Config.environment : Nat → Pins

end Sys2Proof
end

