-- ==== Sys2Proof/Machine/State.lean ====
section
/-! DEFINITION. The state of HPIR-MITSU (10_state.md), of the service it drives, and of the inputs yet
to come; the machine right after reset; and the reasons a step can stop. -/

namespace Sys2Proof.Machine

/-- STATE, the sequencer state (10_state.md R29). -/
inductive SeqState where
  /-- 0x0 IDLE. -/
  | idle
  /-- 0x1 S_FREQ. -/
  | sFreq
  /-- 0x2 S_HMARK. -/
  | sHmark
  /-- 0x3 S_HSPACE. -/
  | sHspace
  /-- 0x4 S_DATA. -/
  | sData
  /-- 0x5 S_GMARK. -/
  | sGmark
  /-- 0x6 S_GSPACE. -/
  | sGspace
  /-- 0x7 S_EMARK. -/
  | sEmark
  /-- 0x8 S_ESPACE. -/
  | sEspace
  /-- The unused encoding 0x9 + n (93_implementation_defined.md I2). -/
  | unused (n : Fin 7)
deriving DecidableEq, Repr

/-- The normalized tuple (P, M, F, T) (10_state.md R23 to R26). -/
structure Tuple where
  /-- P, the power code. -/
  p : Byte
  /-- M, the operating-mode code. -/
  m : Byte
  /-- F, the fan code. -/
  f : Byte
  /-- T, the normalized temperature in whole degrees. -/
  t : Byte
deriving DecidableEq, Repr

/-- One interval on the air (42_pulse_sequencer.md R192, R193). -/
inductive Pulse where
  /-- Carrier on. -/
  | mark (us : Micros)
  /-- Carrier off. -/
  | space (us : Micros)
deriving DecidableEq, Repr

/-- FRAME as (index, byte) pairs, indices strictly rising. An unlisted index holds no value
(10_state.md R38; log entry 3). -/
abbrev Memory := List Host.Cell

/-- The machine's whole state. -/
structure State where
  /-- The hardware's parameters (00_scope.md R6): nothing writes them (10_state.md R34; log entry 1). -/
  params : Params
  /-- VAR (10_state.md R22). -/
  var : Variant
  /-- P, M, F and T (R23 to R26). -/
  tuple : Tuple
  /-- FRAME[0..17] (R28). -/
  frame : Memory
  /-- STATE (R29). -/
  state : SeqState
  /-- BURST (R30). -/
  burst : BitVec 1
  /-- IDX (R31). -/
  idx : BitVec 5
  /-- The op stream, oldest first (20_memory.md R50; log entry 8). -/
  opStream : List OpWord
  /-- The service: the op word it has taken and not yet performed (70_reset_and_hazards.md R231;
  log entry 6). -/
  accepted : Option OpWord
  /-- The service: its carrier in kHz, none while no SETFREQ has been performed (R191, R233). -/
  carrier : Option Byte
  /-- The service: the intervals it has emitted, oldest first (R188, R192 to R194; log entry 7). -/
  air : List Pulse
  /-- MODEL: the inputs of this step and the coming ones, first the next (log entry 4). -/
  script : List Pins
  /-- MODEL: how many steps have been taken; it indexes the free inputs (log entry 4). -/
  tick : Nat
deriving DecidableEq, Repr

/-- The machine right after reset (10_state.md R37). -/
def State.reset : State :=
  { params := Config.resetParams
    var := Config.strap
    tuple := ⟨Config.powerUpP, Config.powerUpM, Config.powerUpF, Config.powerUpT⟩
    frame := []
    state := .idle
    burst := 0
    idx := 0
    opStream := []
    accepted := none
    carrier := none
    air := []
    script := []
    tick := 0 }

/-- Why the machine stops. All are model-only faults for states no run from reset reaches
(60_exceptions.md R211); the block itself raises nothing (R210). -/
inductive Fault where
  /-- Raised by the sequencer outside reset when STATE holds the unused encoding 0x9 + n
  (93_implementation_defined.md I2). Safe: the hardware's behaviour there is not fixed. -/
  | unusedState (n : Fin 7)
  /-- Raised by S_DATA when IDX is above 17 (93_implementation_defined.md I3, 20_memory.md R55). Safe:
  the hardware's behaviour there is not fixed. -/
  | idxOutOfRange (k : Nat)
  /-- Raised by S_DATA when nothing has written FRAME[k] (10_state.md R38,
  93_implementation_defined.md I1). Safe: the hardware's value there is not fixed. -/
  | frameUnwritten (k : Nat)
deriving DecidableEq, Repr

/-- Why an instruction has no meaning. -/
inductive Refusal where
  /-- Raised by exec's arm of an instruction without a meaning yet; no arm of this model does. Safe:
  nothing can be proved of what the instruction does. -/
  | notModelled (mnemonic : String)
deriving DecidableEq, Repr

/-- The outcome of a step of this machine. -/
abbrev Result := Host.Outcome State Fault Refusal

end Sys2Proof.Machine
end

