-- ==== Sys2Proof/Machine/Ops.lean ====
section
/-! DEFINITION. The named operations over FRAME, over State's fields and over outcomes. There is no
exception entry and no return from one to write here: the block raises nothing, has no trap entry and
no trap return (60_exceptions.md R210, R215, R216). -/

namespace Sys2Proof.Machine

/-! ## Arithmetic -/

/-- `sum8`: the sum of bytes mod 256 (00_scope.md R9). -/
def sum8 : List Byte → Byte
  | [] => 0
  | b :: bs => b + sum8 bs

/-! ## FRAME -/

/-- The canonical form: indices strictly rising, every one of FRAME's 18. No listed byte can equal what
an unlisted one reads as, which is no value (log entry 3). -/
abbrev Memory.wf (m : Memory) : Prop :=
  m.Pairwise (fun c d => c.1 < d.1) ∧ ∀ c ∈ m, c.1 < 18

/-- The byte at an index, none where nothing has written it. -/
def Memory.read : Memory → Nat → Option Byte
  | [], _ => none
  | c :: m, k => if c.1 = k then some c.2 else Memory.read m k

/-- `MemWrite(k, 1, v)` (00_scope.md R10, 20_memory.md R51), keeping the indices rising. -/
def Memory.write : Memory → Nat → Byte → Memory
  | [], k, v => [(k, v)]
  | c :: m, k, v =>
    if k < c.1 then (k, v) :: c :: m
    else if k = c.1 then (k, v) :: m
    else c :: Memory.write m k v

/-- Bytes written one by one at rising indices from k. -/
def Memory.storeBytes : Memory → Nat → List Byte → Memory
  | m, _, [] => m
  | m, k, b :: bs => Memory.storeBytes (Memory.write m k b) (k + 1) bs

/-- FRAME written whole, index by index (41_frame_builder.md R147, 20_memory.md R56). -/
def Memory.storeFrame (m : Memory) (f : Frame) : Memory :=
  Memory.storeBytes m 0 f.toList

/-- `MemRead(k, 1)` (00_scope.md R10): the model faults on an index FRAME does not have and on a byte
nothing has written (60_exceptions.md R211). -/
def Memory.fetch (m : Memory) (k : Nat) : Except Fault Byte :=
  if 17 < k then .error (.idxOutOfRange k)
  else
    match Memory.read m k with
    | some b => .ok b
    | none => .error (.frameUnwritten k)

/-! ## Inputs -/

/-- The inputs of this step: the script's first vector, or the free value (log entry 4). -/
def State.pins (s : State) : Pins :=
  match s.script with
  | p :: _ => p
  | [] => Config.environment s.tick

/-- The end of a step: its inputs are over (log entry 4). -/
def State.endStep (s : State) : State :=
  { s with script := s.script.tail, tick := s.tick + 1 }

/-! ## Updates of the block -/

/-- `STATE <- q`. -/
def State.enter (s : State) (q : SeqState) : State := { s with state := q }
/-- `BURST <- b`. -/
def State.setBurst (s : State) (b : BitVec 1) : State := { s with burst := b }
/-- `IDX <- k`. -/
def State.setIdx (s : State) (k : BitVec 5) : State := { s with idx := k }
/-- `(P, M, F, T) <- tup`. -/
def State.setTuple (s : State) (tup : Tuple) : State := { s with tuple := tup }
/-- `FRAME <- f`, all 18 bytes at once (10_state.md R28). -/
def State.setFrame (s : State) (f : Frame) : State :=
  { s with frame := Memory.storeFrame s.frame f }

/-- What a step with rst = 1 writes (70_reset_and_hazards.md R230). -/
def State.resetBlock (s : State) : State :=
  { s with var := s.pins.cfgVariant, state := .idle, burst := 0, idx := 0 }

/-! ## Updates of the op stream and the service -/

/-- The op handshake: the word joins the op stream and the service has it (42_pulse_sequencer.md R171;
log entry 6). -/
def State.transfer (s : State) (w : OpWord) : State :=
  { s with opStream := s.opStream ++ [w], accepted := some w }

/-- The service takes up the op word it has accepted. -/
def State.clearAccepted (s : State) : State := { s with accepted := none }
/-- The service's carrier becomes khz kHz (R191). -/
def State.setCarrier (s : State) (khz : Byte) : State := { s with carrier := some khz }
/-- The service emits intervals (R192 to R194). -/
def State.emit (s : State) (ps : List Pulse) : State := { s with air := s.air ++ ps }

/-! ## Outcomes -/

/-- Go on from a next state; a fault or a refusal stands. -/
def andThen (r : Result) (k : State → Result) : Result :=
  match r with
  | .next s => k s
  | .fault e => .fault e
  | .refused e => .refused e

end Sys2Proof.Machine
end

