-- ==== Sys2Proof/Machine/Build.lean ====
section
/-! DEFINITION. The frame builder: template, field placement, temperature encoder and checksum
(41_frame_builder.md R140 to R147). -/

namespace Sys2Proof.Machine

/-- TEMPLATE, with TEMPLATE[15] = 0x40 (R144; log entry 13). -/
def templateFrame (p : Params) : Frame := p.template.set 15 Config.byte15Normal

/-- Step 2, field placement (R141). -/
def placeFields (tup : Tuple) (f : Frame) : Frame :=
  ((f.set 5 tup.p).set 6 tup.m).set 9 tup.f

/-- Step 3, the temperature encoder (R142). -/
def encodeTemp (p : Params) (t : Byte) (f : Frame) : Frame :=
  if t = Config.tempMaint then (f.set 7 0).set 15 Config.byte15Maint
  else (f.set 7 (t - Config.tempOffset)).set 15 (templateFrame p)[15]

/-- `sum8(FRAME[0..16])` (R145). -/
def checksum (f : Frame) : Byte := sum8 (f.toList.take 17)

/-- Step 4, the checksum generator (R145). -/
def appendChecksum (f : Frame) : Frame := f.set 17 (checksum f)

/-- The whole build (R147): each step reads what the steps before it wrote. -/
def build (p : Params) (tup : Tuple) : Frame :=
  appendChecksum (encodeTemp p tup.t (placeFields tup (templateFrame p)))

end Sys2Proof.Machine
end

