-- ==== Sys2Proof/Machine/Flags.lean ====
section
/-! DEFINITION. The block's status outputs: derived from STATE and rst, holding no state of their own. No
instruction writes a flag (10_state.md R33). -/

namespace Sys2Proof.Machine

/-- STATE's 4-bit encoding (10_state.md R29). -/
def SeqState.code : SeqState → BitVec 4
  | .idle => 0x0
  | .sFreq => 0x1
  | .sHmark => 0x2
  | .sHspace => 0x3
  | .sData => 0x4
  | .sGmark => 0x5
  | .sGspace => 0x6
  | .sEmark => 0x7
  | .sEspace => 0x8
  | .unused n => 0x9 + BitVec.ofNat 4 n.val

/-- `cmd_ready`: STATE is IDLE and rst is 0 (10_state.md R20, 90_conflicts.md C7). -/
def State.cmdReady (s : State) : Bool :=
  decide (s.state = .idle) && !s.pins.rst

/-- `busy`: STATE is not IDLE (10_state.md R33), and 0 while rst = 1 (70_reset_and_hazards.md R230;
log entry 9). -/
def State.busy (s : State) : Bool :=
  decide (s.state ≠ .idle) && !s.pins.rst

/-- `op_valid`: an op word is offered in every state but IDLE (42_pulse_sequencer.md R171, R172), and
none while rst = 1 (70_reset_and_hazards.md R230). -/
def State.opValid (s : State) : Bool :=
  decide (s.state ≠ .idle) && !s.pins.rst

end Sys2Proof.Machine
end

