-- ==== Sys2Proof/Syntax.lean ====
section
/-! DEFINITION. The instructions of spec/opcode_table.json: eight command rows (CMD16) and four output
operations (OP128), one constructor each. -/

namespace Sys2Proof

/-- The FAN field of a command word (30_encoding.md R74): AUTO, the four levels, and the three
unrecognized values, named as in R87's textual syntax. -/
inductive FanSel where
  | auto
  | level1
  | level2
  | level3
  | level4
  | rsv5
  | rsv6
  | rsv7
deriving DecidableEq, Repr, Inhabited

/-- The operands every command row carries (30_encoding.md R71, R77). -/
structure CmdOperands where
  /-- POWER, bit 0: true is on (R72). -/
  power : Bool
  /-- FAN, bits 6:4 (R74). -/
  fan : FanSel
  /-- RSV, bit 7: reserved, ignored by the block (R76). -/
  rsv : Bool
  /-- TEMP, bits 15:8: unsigned whole degrees (R75). -/
  temp : Byte
deriving DecidableEq, Repr, Inhabited

/-- One constructor per row of spec/opcode_table.json. -/
inductive Instr where
  /-- SEND.RSV0, MODE 0, unrecognized (40_command_translation.md R109). -/
  | sendRsv0 (o : CmdOperands)
  /-- SEND.AUTO, MODE 1 (R102). -/
  | sendAuto (o : CmdOperands)
  /-- SEND.HEAT, MODE 2 (R103). -/
  | sendHeat (o : CmdOperands)
  /-- SEND.COOL, MODE 3 (R104). -/
  | sendCool (o : CmdOperands)
  /-- SEND.DRY, MODE 4 (R105). -/
  | sendDry (o : CmdOperands)
  /-- SEND.FAN, MODE 5 (R106). -/
  | sendFan (o : CmdOperands)
  /-- SEND.MAINT, MODE 6 (R107). -/
  | sendMaint (o : CmdOperands)
  /-- SEND.RSV7, MODE 7, unrecognized (R109). -/
  | sendRsv7 (o : CmdOperands)
  /-- SETFREQ khz, KIND 0 (42_pulse_sequencer.md R191). -/
  | setfreq (khz : Byte)
  /-- MARK us, KIND 1 (R192). -/
  | mark (us : Micros)
  /-- SPACE us, KIND 2 (R193). -/
  | space (us : Micros)
  /-- SENDBYTE b, bm, zs, os, KIND 3 (R194). -/
  | sendbyte (b : Byte) (bm zs os : Micros)
deriving DecidableEq, Repr

end Sys2Proof
end

