-- ==== Sys2Proof/WellFormed.lean ====
section
/-! DEFINITION. Well-formed instructions: those a host is asked to write. The types already bound every
field to its width; the one rule left is 30_encoding.md R76, "A host should write 0" to RSV. The block
runs a command with RSV = 1 all the same (log entry 11). -/

namespace Sys2Proof

/-- The operands are those of R87's textual syntax: RSV is 0. -/
def CmdOperands.wellFormed (o : CmdOperands) : Bool :=
  !o.rsv

/-- The instruction is one a host, or the block, is asked to write (30_encoding.md R76, R87, R88). -/
def Instr.wellFormed : Instr → Bool
  | .sendRsv0 o => o.wellFormed
  | .sendAuto o => o.wellFormed
  | .sendHeat o => o.wellFormed
  | .sendCool o => o.wellFormed
  | .sendDry o => o.wellFormed
  | .sendFan o => o.wellFormed
  | .sendMaint o => o.wellFormed
  | .sendRsv7 o => o.wellFormed
  | .setfreq _ => true
  | .mark _ => true
  | .space _ => true
  | .sendbyte _ _ _ _ => true

end Sys2Proof
end

