-- ==== Sys2Proof/Decode.lean ====
section
/-! DEFINITION. The decoder, total on every word of either port and on any bytes (30_encoding.md R70 to
R85), and after it the encoder written from the same layouts. -/

namespace Sys2Proof

/-! ## CMD16 fields (30_encoding.md R71) -/

/-- The MODE field, bits 3:1. -/
def CmdWord.mode (w : CmdWord) : BitVec 3 := w.extractLsb' 1 3

/-- FAN values (R74). -/
def FanSel.ofBits (b : BitVec 3) : FanSel :=
  match b.toNat with
  | 0 => .auto
  | 1 => .level1
  | 2 => .level2
  | 3 => .level3
  | 4 => .level4
  | 5 => .rsv5
  | 6 => .rsv6
  | _ => .rsv7

/-- The operand fields of a command word (R71, R75). -/
def CmdWord.operands (w : CmdWord) : CmdOperands :=
  { power := w.getLsbD 0
    fan := FanSel.ofBits (w.extractLsb' 4 3)
    rsv := w.getLsbD 7
    temp := w.extractLsb' 8 8 }

/-- The row of a command word: MODE alone selects it (R77). -/
def decodeCmd (w : CmdWord) : Instr :=
  match (CmdWord.mode w).toNat with
  | 0 => .sendRsv0 (CmdWord.operands w)
  | 1 => .sendAuto (CmdWord.operands w)
  | 2 => .sendHeat (CmdWord.operands w)
  | 3 => .sendCool (CmdWord.operands w)
  | 4 => .sendDry (CmdWord.operands w)
  | 5 => .sendFan (CmdWord.operands w)
  | 6 => .sendMaint (CmdWord.operands w)
  | _ => .sendRsv7 (CmdWord.operands w)

/-! ## OP128 fields (30_encoding.md R80) -/

/-- KIND, bits 1:0 (R82). -/
def OpWord.kind (w : OpWord) : BitVec 2 := w.extractLsb' 0 2
/-- B8, bits 15:8. -/
def OpWord.b8 (w : OpWord) : Byte := w.extractLsb' 8 8
/-- A, bits 63:32. -/
def OpWord.fieldA (w : OpWord) : Micros := w.extractLsb' 32 32
/-- B, bits 95:64. -/
def OpWord.fieldB (w : OpWord) : Micros := w.extractLsb' 64 32
/-- C, bits 127:96. -/
def OpWord.fieldC (w : OpWord) : Micros := w.extractLsb' 96 32

/-- The operation of an op word, by KIND (R82, R83). Reserved bits and fields the kind does not use
are ignored, as R84 asks of the service. -/
def decodeOp (w : OpWord) : Instr :=
  match (OpWord.kind w).toNat with
  | 0 => .setfreq (OpWord.b8 w)
  | 1 => .mark (OpWord.fieldA w)
  | 2 => .space (OpWord.fieldA w)
  | _ => .sendbyte (OpWord.b8 w) (OpWord.fieldA w) (OpWord.fieldB w) (OpWord.fieldC w)

/-- The instruction of a word at either port: total, no word is illegal (R77, R78, R82). -/
def decode : PortWord → Instr
  | .cmd w => decodeCmd w
  | .op w => decodeOp w

/-! ## Bytes -/

/-- Why bytes are not one word of the hardware. -/
inductive DecodeError where
  /-- The bytes are neither the 2 of a CMD16 nor the 16 of an OP128 (30_encoding.md R70). -/
  | badLength (n : Nat)
deriving DecidableEq, Repr

/-- Bytes as one number, the first byte in bits 7:0 (log entry 18). -/
def natOfBytes : List Byte → Nat
  | [] => 0
  | b :: bs => b.toNat + 256 * natOfBytes bs

/-- The first n bytes of a number, bits 7:0 first (log entry 18). -/
def bytesOfNat : Nat → Nat → List Byte
  | 0, _ => []
  | n + 1, v => BitVec.ofNat 8 v :: bytesOfNat n (v / 256)

/-- Decoding of bytes: the length says the format, since the two fixed lengths differ (R70). -/
def decodeBytes (bs : List Byte) : Except DecodeError Instr :=
  match bs.length with
  | 2 => .ok (decode (.cmd (BitVec.ofNat 16 (natOfBytes bs))))
  | 16 => .ok (decode (.op (BitVec.ofNat 128 (natOfBytes bs))))
  | n => .error (.badLength n)

/-! ## The encoder (30_encoding.md R80 to R88) -/

/-- FAN values (R74). -/
def FanSel.bits : FanSel → BitVec 3
  | .auto => 0
  | .level1 => 1
  | .level2 => 2
  | .level3 => 3
  | .level4 => 4
  | .rsv5 => 5
  | .rsv6 => 6
  | .rsv7 => 7

/-- The command word of a MODE value and operands: R87's concatenation. -/
def CmdWord.pack (mode : BitVec 3) (o : CmdOperands) : CmdWord :=
  o.temp ++ BitVec.ofBool o.rsv ++ FanSel.bits o.fan ++ mode ++ BitVec.ofBool o.power

/-- An op word from its fields, reserved bits zero (R80, R84). -/
def OpWord.pack (kind : BitVec 2) (b8 : Byte) (a b c : Micros) : OpWord :=
  c ++ b ++ a ++ (0 : BitVec 16) ++ b8 ++ (0 : BitVec 6) ++ kind

/-- `SETFREQ khz` (R83, R88). -/
def OpWord.setfreq (khz : Byte) : OpWord := OpWord.pack 0 khz 0 0 0
/-- `MARK us` (R83, R88). -/
def OpWord.mark (us : Micros) : OpWord := OpWord.pack 1 0 us 0 0
/-- `SPACE us` (R83, R88). -/
def OpWord.space (us : Micros) : OpWord := OpWord.pack 2 0 us 0 0
/-- `SENDBYTE b, bm, zs, os` (R83, R88). -/
def OpWord.sendbyte (b : Byte) (bm zs os : Micros) : OpWord := OpWord.pack 3 b bm zs os

/-- The word of an instruction, at the port its format belongs to (R70). -/
def encode : Instr → PortWord
  | .sendRsv0 o => .cmd (CmdWord.pack 0 o)
  | .sendAuto o => .cmd (CmdWord.pack 1 o)
  | .sendHeat o => .cmd (CmdWord.pack 2 o)
  | .sendCool o => .cmd (CmdWord.pack 3 o)
  | .sendDry o => .cmd (CmdWord.pack 4 o)
  | .sendFan o => .cmd (CmdWord.pack 5 o)
  | .sendMaint o => .cmd (CmdWord.pack 6 o)
  | .sendRsv7 o => .cmd (CmdWord.pack 7 o)
  | .setfreq khz => .op (OpWord.setfreq khz)
  | .mark us => .op (OpWord.mark us)
  | .space us => .op (OpWord.space us)
  | .sendbyte b bm zs os => .op (OpWord.sendbyte b bm zs os)

/-! ## Words numbered as spec/opcode_table.json numbers them -/

/-- The word that nbits bits of the table stand for, the bits above them zero. 16 bits are a CMD16,
more are an OP128. Of 8 bits or fewer the format is read off: bits 7:2 of every op word are 0 (R84),
so a byte with one of them set is the low byte of a command word (log entry 14). -/
def tableWord (nbits w : Nat) : Option PortWord :=
  let v := w % 2 ^ nbits
  if nbits = 16 then some (.cmd (BitVec.ofNat 16 v))
  else if 128 < nbits then none
  else if nbits ≤ 8 ∧ 4 ≤ v then some (.cmd (BitVec.ofNat 16 v))
  else some (.op (BitVec.ofNat 128 v))

/-- The bytes of a port word, bits 7:0 first (log entry 18). -/
def PortWord.bytes : PortWord → List Byte
  | .cmd w => bytesOfNat 2 w.toNat
  | .op w => bytesOfNat 16 w.toNat

/-- The instruction the decoder reads from a word of the table. -/
def decodeTableWord (nbits w : Nat) : Option Instr :=
  match tableWord nbits w with
  | none => none
  | some pw =>
    match decodeBytes pw.bytes with
    | .ok i => some i
    | .error _ => none

end Sys2Proof
end

