-- ==== Sys2Proof/Machine/Operands.lean ====
section
/-! DEFINITION. The operand forms of the command rows: the power and fan LUTs and the temperature
validation (40_command_translation.md R101, R111 to R117). -/

namespace Sys2Proof.Machine

/-- The power LUT (R101). -/
def powerCode (p : Params) (on : Bool) : Byte :=
  if on then p.codePowerOn else p.codePowerOff

/-- The fan LUT with its fallback to AUTO (R111, R112). -/
def fanCode (p : Params) : FanSel → Byte
  | .auto => p.codeFanAuto
  | .level1 => p.codeFan1
  | .level2 => p.codeFan2
  | .level3 => p.codeFan3
  | .level4 => p.codeFan4
  | .rsv5 => p.codeFanAuto
  | .rsv6 => p.codeFanAuto
  | .rsv7 => p.codeFanAuto

/-- `accept(t, forced31)` under either reading (R115). -/
def acceptTemp (r : TempRangeReading) (t : Byte) (forced31 : Bool) : Bool :=
  match r with
  | .open16to32 => decide (16 < t.toNat) && decide (t.toNat < 32)
  | .halfOpen17to31 => forced31 || (decide (16 < t.toNat) && decide (t.toNat < 31))

/-- The validated temperature: the caller's, or the default 23 (R115). -/
def validTemp (r : TempRangeReading) (t : Byte) (forced31 : Bool) : Byte :=
  if acceptTemp r t forced31 then t else Config.tempDefault

end Sys2Proof.Machine
end

