-- ==== Sys2Proof/Machine/Translate.lean ====
section
/-! DEFINITION. The command translator: what each MODE row leaves for the fan and temperature parts, and
the tuple they make of it (40_command_translation.md R100 to R119). -/

namespace Sys2Proof.Machine

/-- What the MODE case leaves: M, and the operands and marks the later parts read (R119). -/
structure ModeRow where
  /-- M. -/
  m : Byte
  /-- maint. -/
  maint : Bool
  /-- forced31. -/
  forced31 : Bool
  /-- tcmd (R114). -/
  tcmd : Byte
  /-- fcmd (R111). -/
  fcmd : FanSel
deriving DecidableEq, Repr

/-- The values before the MODE case runs: the source's defaults and the caller's operands (R119). -/
def rowDefault (p : Params) (o : CmdOperands) : ModeRow :=
  { m := p.codeModeHeat, maint := false, forced31 := false, tcmd := o.temp, fcmd := o.fan }

/-- MODE 1 (R102). -/
def rowAuto (p : Params) (o : CmdOperands) : ModeRow :=
  { rowDefault p o with m := p.codeModeAuto }

/-- MODE 2 (R103). -/
def rowHeat (p : Params) (o : CmdOperands) : ModeRow :=
  { rowDefault p o with m := p.codeModeHeat }

/-- MODE 3 (R104). -/
def rowCool (p : Params) (o : CmdOperands) : ModeRow :=
  { rowDefault p o with m := p.codeModeCool }

/-- MODE 4 (R105). -/
def rowDry (p : Params) (o : CmdOperands) : ModeRow :=
  { rowDefault p o with m := p.codeModeDry }

/-- MODE 5: COOL's code, and the temperature forced to 31 (R106). -/
def rowFan (p : Params) (o : CmdOperands) : ModeRow :=
  { rowDefault p o with
    m := p.codeModeCool, tcmd := Config.tempFanForced, forced31 := true }

/-- MODE 6: on the supporting variant HEAT or-ed with HEAT (R108), maintenance and fan AUTO; on the
plain variant nothing (R107). -/
def rowMaint (p : Params) (v : Variant) (o : CmdOperands) : ModeRow :=
  match v with
  | .supporting =>
    { rowDefault p o with
      m := (rowDefault p o).m ||| p.codeModeHeat, maint := true, fcmd := .auto }
  | .plain => rowDefault p o

/-- MODE 0: unrecognized, `skip` (R109). -/
def rowRsv0 (p : Params) (o : CmdOperands) : ModeRow := rowDefault p o

/-- MODE 7: unrecognized, `skip` (R109). -/
def rowRsv7 (p : Params) (o : CmdOperands) : ModeRow := rowDefault p o

/-- T: 10 in maintenance with no validation (R117), else the validated tcmd (R115). -/
def rowTemp (p : Params) (r : ModeRow) : Byte :=
  if r.maint then Config.tempMaint else validTemp p.tempRange r.tcmd r.forced31

/-- The tuple of a row (R119). POWER sets P alone (R110). -/
def rowTuple (p : Params) (o : CmdOperands) (r : ModeRow) : Tuple :=
  { p := powerCode p o.power, m := r.m, f := fanCode p r.fcmd, t := rowTemp p r }

end Sys2Proof.Machine
end

