-- ==== Sys2Proof/Machine/Send.lean ====
section
/-! DEFINITION. The meanings of the eight command rows: the accept step of a command
(40_command_translation.md R100, 42_pulse_sequencer.md R173). -/

namespace Sys2Proof.Machine

/-- The accept step for a tuple: tuple, FRAME, BURST, IDX and STATE, all in one step; no op is emitted
(42_pulse_sequencer.md R173). -/
def State.accept (s : State) (tup : Tuple) : State :=
  ((((s.setTuple tup).setFrame (build s.params tup)).setBurst 0).setIdx 0).enter .sFreq

/-- A command at the port: accepted where cmd_ready = 1, else it waits and nothing is sampled
(30_encoding.md R79, 70_reset_and_hazards.md R236; log entry 17). -/
def sendCommand (o : CmdOperands) (r : ModeRow) (s : State) : Result :=
  .next (if s.cmdReady then s.accept (rowTuple s.params o r) else s)

/-- SEND.RSV0 (R109). -/
def execSendRsv0 (o : CmdOperands) (s : State) : Result :=
  sendCommand o (rowRsv0 s.params o) s

/-- SEND.AUTO (R102). -/
def execSendAuto (o : CmdOperands) (s : State) : Result :=
  sendCommand o (rowAuto s.params o) s

/-- SEND.HEAT (R103). -/
def execSendHeat (o : CmdOperands) (s : State) : Result :=
  sendCommand o (rowHeat s.params o) s

/-- SEND.COOL (R104). -/
def execSendCool (o : CmdOperands) (s : State) : Result :=
  sendCommand o (rowCool s.params o) s

/-- SEND.DRY (R105). -/
def execSendDry (o : CmdOperands) (s : State) : Result :=
  sendCommand o (rowDry s.params o) s

/-- SEND.FAN (R106). -/
def execSendFan (o : CmdOperands) (s : State) : Result :=
  sendCommand o (rowFan s.params o) s

/-- SEND.MAINT (R107): the only row that reads VAR (10_state.md R22). -/
def execSendMaint (o : CmdOperands) (s : State) : Result :=
  sendCommand o (rowMaint s.params s.var o) s

/-- SEND.RSV7 (R109). -/
def execSendRsv7 (o : CmdOperands) (s : State) : Result :=
  sendCommand o (rowRsv7 s.params o) s

end Sys2Proof.Machine
end

