-- ==== Sys2Proof/Machine/Service.lean ====
section
/-! DEFINITION. The meanings of the four output operations: what each op asks of the Pulse Emission
Service, which performs it once and exactly (42_pulse_sequencer.md R188, R191 to R194,
70_reset_and_hazards.md R240; log entries 6 and 7). -/

namespace Sys2Proof.Machine

/-- `order(j)`: the bit that pair j carries (R188). -/
def bitAt (order : BitOrder) (j : Nat) : Nat :=
  match order with
  | .lsbFirst => j
  | .msbFirst => 7 - j

/-- `pair(j)` of a byte (R188). -/
def bitPair (order : BitOrder) (b : Byte) (bm zs os : Micros) (j : Nat) : List Pulse :=
  [.mark bm, .space (if b.getLsbD (bitAt order j) then os else zs)]

/-- The 8 mark/space pairs of a byte, pair 0 first (R188). -/
def bytePulses (order : BitOrder) (b : Byte) (bm zs os : Micros) : List Pulse :=
  [0, 1, 2, 3, 4, 5, 6, 7].flatMap (bitPair order b bm zs os)

/-- SETFREQ khz (R191). -/
def execSetfreq (khz : Byte) (s : State) : Result :=
  .next (s.setCarrier khz)

/-- MARK us (R192). -/
def execMark (us : Micros) (s : State) : Result :=
  .next (s.emit [.mark us])

/-- SPACE us (R193): a length of 0 is legal and is emitted as an op like any other. -/
def execSpace (us : Micros) (s : State) : Result :=
  .next (s.emit [.space us])

/-- SENDBYTE b, bm, zs, os (R194). -/
def execSendbyte (b : Byte) (bm zs os : Micros) (s : State) : Result :=
  .next (s.emit (bytePulses s.params.bitOrder b bm zs os))

end Sys2Proof.Machine
end

