-- ==== Sys2Proof/Machine/Dispatch.lean ====
section
/-! DEFINITION. One arm per constructor of Instr. -/

namespace Sys2Proof.Machine

def exec (i : Instr) (s : State) : Host.Outcome State Fault Refusal :=
  match i with
  | .sendRsv0 o => Sys2Proof.Machine.execSendRsv0 o s
  | .sendAuto o => Sys2Proof.Machine.execSendAuto o s
  | .sendHeat o => Sys2Proof.Machine.execSendHeat o s
  | .sendCool o => Sys2Proof.Machine.execSendCool o s
  | .sendDry o => Sys2Proof.Machine.execSendDry o s
  | .sendFan o => Sys2Proof.Machine.execSendFan o s
  | .sendMaint o => Sys2Proof.Machine.execSendMaint o s
  | .sendRsv7 o => Sys2Proof.Machine.execSendRsv7 o s
  | .setfreq khz => Sys2Proof.Machine.execSetfreq khz s
  | .mark us => Sys2Proof.Machine.execMark us s
  | .space us => Sys2Proof.Machine.execSpace us s
  | .sendbyte b bm zs os => Sys2Proof.Machine.execSendbyte b bm zs os s

end Sys2Proof.Machine
end

