-- ==== Sys2Proof/Machine/Sequencer.lean ====
section
/-! DEFINITION. The pulse-train sequencer: the op each state presents and where its handshake leads
(42_pulse_sequencer.md R170 to R182). -/

namespace Sys2Proof.Machine

/-- `op(STATE, BURST, IDX, FRAME)`: the op word the state presents, none in IDLE (R171, R182). An unused
STATE, an IDX above 17 in S_DATA and an unwritten byte fault (60_exceptions.md R211; log entry 16). -/
def State.presentedWord (s : State) : Except Fault (Option OpWord) :=
  match s.state with
  | .idle => .ok none
  | .sFreq => .ok (some (OpWord.setfreq Config.carrierKhz))
  | .sHmark => .ok (some (OpWord.mark s.params.hdrMarkUs))
  | .sHspace => .ok (some (OpWord.space s.params.hdrSpaceUs))
  | .sData =>
    match Memory.fetch s.frame s.idx.toNat with
    | .ok b => .ok (some (OpWord.sendbyte b s.params.bitMarkUs s.params.zeroSpaceUs s.params.oneSpaceUs))
    | .error e => .error e
  | .sGmark => .ok (some (OpWord.mark s.params.bitMarkUs))
  | .sGspace => .ok (some (OpWord.space s.params.msgSpaceUs))
  | .sEmark => .ok (some (OpWord.mark s.params.bitMarkUs))
  | .sEspace => .ok (some (OpWord.space Config.endSpaceUs))
  | .unused n => .error (.unusedState n)

/-- `op_word`: what the block drives, none where op_valid = 0 and op_word is unspecified (10_state.md
R37) or where the presented op faults. -/
def State.opWord (s : State) : Option OpWord :=
  if s.opValid then
    match s.presentedWord with
    | .ok w => w
    | .error _ => none
  else none

/-- Leaving S_DATA or staying in it (R177). -/
def State.advanceData (s : State) : State :=
  if s.idx.toNat < 17 then s.setIdx (s.idx + 1)
  else if s.burst = 0 then s.enter .sGmark
  else s.enter .sEmark

/-- The next state and counters after an op handshake (R182). -/
def State.advance (s : State) : State :=
  match s.state with
  | .idle => s
  | .sFreq => s.enter .sHmark
  | .sHmark => s.enter .sHspace
  | .sHspace => (s.setIdx 0).enter .sData
  | .sData => s.advanceData
  | .sGmark => s.enter .sGspace
  | .sGspace => (s.setBurst 1).enter .sHmark
  | .sEmark => s.enter .sEspace
  | .sEspace => s.enter .idle
  | .unused _ => s

end Sys2Proof.Machine
end

