-- ==== Sys2Proof/Machine/Turn.lean ====
section
/-! DEFINITION. The two turns of a step, the service's and the block's, and how an instruction is put
where the next step runs it. -/

namespace Sys2Proof.Machine

/-- The service's turn: it performs the op word it accepted in an earlier step, if any
(70_reset_and_hazards.md R239, R240; log entry 6). Reset does not recall it (R231). -/
def serviceTurn (s : State) : Result :=
  match s.accepted with
  | none => .next s
  | some w => exec (decode (.op w)) s.clearAccepted

/-- IDLE: the offered command runs, if there is one (42_pulse_sequencer.md R172, R173). -/
def idleTurn (s : State) : Result :=
  if s.pins.cmdValid then exec (decode (.cmd s.pins.cmdWord)) s else .next s

/-- A state that presents an op: it transfers and the block moves on, or everything is held (R171). -/
def opTurn (w : OpWord) (s : State) : Result :=
  .next (if s.pins.opReady then (s.transfer w).advance else s)

/-- The block's turn: reset first (60_exceptions.md R214), then a command in IDLE or an op elsewhere. -/
def blockTurn (s : State) : Result :=
  if s.pins.rst then .next s.resetBlock
  else
    match s.presentedWord with
    | .error e => .fault e
    | .ok none => idleTurn s
    | .ok (some w) => opTurn w s

/-- The end of a step: the inputs of the next one stand. -/
def finishStep (s : State) : Result := .next s.endStep

/-! ## Putting an instruction where the next step runs it (log entry 15) -/

/-- Inputs that offer a command word. -/
def offerPins (w : CmdWord) : Pins :=
  { rst := false, cfgVariant := .plain, cmdValid := true, cmdWord := w, opReady := false }

/-- Inputs that offer nothing and take nothing. -/
def quietPins : Pins :=
  { rst := false, cfgVariant := .plain, cmdValid := false, cmdWord := 0, opReady := false }

/-- A command word is offered to an idle block; an op word has just been accepted by the service. -/
def State.placeWord (s : State) : PortWord → State
  | .cmd w => { s with state := .idle, accepted := none, script := offerPins w :: s.script }
  | .op w => { s with accepted := some w, script := quietPins :: s.script }

end Sys2Proof.Machine
end

