-- ==== Sys2Proof/Machine/Step.lean ====
section
/-! DEFINITION. One step of the machine: the service's turn, the block's turn, the end of the step's
inputs (70_reset_and_hazards.md R243; log entries 4, 6 and 19). -/

namespace Sys2Proof.Machine

/-- One step. -/
def step (s : State) : Host.Outcome State Fault Refusal :=
  andThen (andThen (serviceTurn s) blockTurn) finishStep

/-- The state with the instruction of a table word placed where the next step runs it (log entry 15); a
word wider than any of the hardware changes nothing. -/
def State.withFetchWord (s : State) (nbits w : Nat) : State :=
  match tableWord nbits w with
  | some pw => s.placeWord pw
  | none => s

end Sys2Proof.Machine
end

