-- ==== Sys2Proof/Machine/Reference.lean ====
section
/-! DEFINITION. The spec's own whole-function descriptions, written out from its text and used by nothing
in the step: statements compare the machine with them. -/

namespace Sys2Proof.Machine

/-! ## The translator on the raw command word (40_command_translation.md R119) -/

/-- MODE as a number. -/
def wordMode (w : CmdWord) : Nat := w.toNat / 2 % 8
/-- FAN as a number. -/
def wordFan (w : CmdWord) : Nat := w.toNat / 16 % 8
/-- TEMP, the high byte. -/
def wordTemp (w : CmdWord) : Byte := BitVec.ofNat 8 (w.toNat / 256)

/-- The fan LUT on the field's number (R111, R112). -/
def fanCodeOfNat (p : Params) : Nat → Byte
  | 1 => p.codeFan1
  | 2 => p.codeFan2
  | 3 => p.codeFan3
  | 4 => p.codeFan4
  | _ => p.codeFanAuto

/-- `accept` (R115), on numbers. -/
def acceptNat (r : TempRangeReading) (t : Nat) (forced31 : Bool) : Bool :=
  match r with
  | .open16to32 => decide (16 < t ∧ t < 32)
  | .halfOpen17to31 => forced31 || decide (16 < t ∧ t < 31)

/-- `normalize(cmd_word, VAR)` (R119). -/
def normalizeWord (p : Params) (w : CmdWord) (v : Variant) : Tuple :=
  let row : Byte × Bool × Bool × Byte × Nat :=
    match wordMode w with
    | 1 => (p.codeModeAuto, false, false, wordTemp w, wordFan w)
    | 2 => (p.codeModeHeat, false, false, wordTemp w, wordFan w)
    | 3 => (p.codeModeCool, false, false, wordTemp w, wordFan w)
    | 4 => (p.codeModeDry, false, false, wordTemp w, wordFan w)
    | 5 => (p.codeModeCool, false, true, 31, wordFan w)
    | 6 =>
      match v with
      | .supporting => (p.codeModeHeat ||| p.codeModeHeat, true, false, wordTemp w, 0)
      | .plain => (p.codeModeHeat, false, false, wordTemp w, wordFan w)
    | _ => (p.codeModeHeat, false, false, wordTemp w, wordFan w)
  let (m, maint, forced31, tcmd, fcmd) := row
  { p := if w.toNat % 2 = 1 then p.codePowerOn else p.codePowerOff
    m := m
    f := fanCodeOfNat p fcmd
    t := if maint then 10 else if acceptNat p.tempRange tcmd.toNat forced31 then tcmd else 23 }

/-- What a host makes of a wider temperature: saturated into 0 to 255 (70_reset_and_hazards.md R241). -/
def saturateTemp (t : Int) : Byte :=
  if t < 0 then 0 else if 255 < t then 255 else BitVec.ofInt 8 t

/-- The source's test on whole degrees of any size, for a caller's temperature (R115). -/
def acceptDegrees (r : TempRangeReading) (t : Int) : Bool :=
  match r with
  | .open16to32 => decide (16 < t ∧ t < 32)
  | .halfOpen17to31 => decide (16 < t ∧ t < 31)

/-! ## The bits of an op word that its kind uses (30_encoding.md R80, R83) -/

/-- KIND, and of B8, A, B and C the fields R83's table gives the kind. -/
def usedMask (kind : BitVec 2) : OpWord :=
  match kind.toNat with
  | 0 => 0x00000000_00000000_00000000_0000FF03#128
  | 1 => 0x00000000_00000000_FFFFFFFF_00000003#128
  | 2 => 0x00000000_00000000_FFFFFFFF_00000003#128
  | _ => 0xFFFFFFFF_FFFFFFFF_FFFFFFFF_0000FF03#128

/-- The word with every bit its kind does not use cleared. -/
def clearUnused (w : OpWord) : OpWord := w &&& usedMask (OpWord.kind w)

/-! ## The op stream of one command (42_pulse_sequencer.md R183 to R185) -/

/-- One burst: header mark, header space, and the frame's bytes in index order. -/
def burstWords (p : Params) (f : Frame) : List OpWord :=
  OpWord.mark p.hdrMarkUs :: OpWord.space p.hdrSpaceUs ::
    f.toList.map fun b => OpWord.sendbyte b p.bitMarkUs p.zeroSpaceUs p.oneSpaceUs

/-- The 45 op words of one command, in order (R185). -/
def commandStream (p : Params) (f : Frame) : List OpWord :=
  [OpWord.setfreq 40] ++ burstWords p f ++ [OpWord.mark p.bitMarkUs, OpWord.space p.msgSpaceUs] ++
    burstWords p f ++ [OpWord.mark p.bitMarkUs, OpWord.space 0]

/-- How many of the command's 45 ops are done where the block stands at (STATE, BURST, IDX)
(10_state.md R32, 42_pulse_sequencer.md R185). -/
def State.position (s : State) : Nat :=
  match s.state with
  | .idle => 45
  | .sFreq => 0
  | .sHmark => 1 + 22 * s.burst.toNat
  | .sHspace => 2 + 22 * s.burst.toNat
  | .sData => 3 + 22 * s.burst.toNat + s.idx.toNat
  | .sGmark => 21
  | .sGspace => 22
  | .sEmark => 43
  | .sEspace => 44
  | .unused _ => 0

/-! ## The air (42_pulse_sequencer.md R188 to R190, 70_reset_and_hazards.md R244) -/

/-- The intervals an op asks for: none of SETFREQ, none of a word that is not an op. -/
def instrPulses (order : BitOrder) : Instr → List Pulse
  | .setfreq _ => []
  | .mark us => [.mark us]
  | .space us => [.space us]
  | .sendbyte b bm zs os => bytePulses order b bm zs os
  | .sendRsv0 _ => []
  | .sendAuto _ => []
  | .sendHeat _ => []
  | .sendCool _ => []
  | .sendDry _ => []
  | .sendFan _ => []
  | .sendMaint _ => []
  | .sendRsv7 _ => []

/-- The intervals a stream of op words asks for, in order. -/
def streamPulses (order : BitOrder) (ws : List OpWord) : List Pulse :=
  ws.flatMap fun w => instrPulses order (decode (.op w))

/-- Carrier on. -/
def Pulse.isMark : Pulse → Bool
  | .mark _ => true
  | .space _ => false

/-- An interval's length in microseconds. -/
def Pulse.us : Pulse → Nat
  | .mark d => d.toNat
  | .space d => d.toNat

/-- The nominal time of intervals with nothing between them (42_pulse_sequencer.md R190). -/
def airTime : List Pulse → Nat
  | [] => 0
  | x :: xs => x.us + airTime xs

/-- The number of 1 bits of a byte. -/
def popcount (b : Byte) : Nat :=
  ([0, 1, 2, 3, 4, 5, 6, 7].map fun i => (b.getLsbD i).toNat).sum

/-- The number of 1 bits of a frame. -/
def framePopcount (f : Frame) : Nat := (f.toList.map popcount).sum

end Sys2Proof.Machine
end

