-- ==== Sys2Proof/Safety.lean ====
section
/-! DEFINITION. The terms statements speak in: what a built frame holds, what an accepted command changes,
where a run stands, and the invariant of 70_reset_and_hazards.md R232. -/

namespace Sys2Proof.Safety

open Sys2Proof.Machine

/-- FRAME holds the 18 bytes f. -/
def Holds (m : Memory) (f : Frame) : Prop :=
  ∀ k : Fin 18, Memory.read m k.val = some f[k]

/-- f is a frame for the tuple: bytes 5, 6 and 9 are P, M and F (41_frame_builder.md R141), bytes 7 and 15
the encoded temperature (R142), byte 17 the sum of bytes 0 to 16 (R145), every other byte TEMPLATE's
(R149). -/
def IsFrameOf (p : Params) (tup : Tuple) (f : Frame) : Prop :=
  (∀ k : Fin 18, k.val ∉ [5, 6, 7, 9, 15, 17] → f[k] = p.template[k]) ∧
  f[5] = tup.p ∧ f[6] = tup.m ∧ f[9] = tup.f ∧
  (tup.t = 10 → f[7] = 0x00 ∧ f[15] = 0x20) ∧
  (tup.t ≠ 10 → f[7] = tup.t - 16 ∧ f[15] = 0x40) ∧
  f[17] = sum8 (f.toList.take 17)

/-- FRAME holds a frame built for the tuple. -/
def FrameBuilt (p : Params) (tup : Tuple) (m : Memory) : Prop :=
  ∃ f : Frame, Holds m f ∧ IsFrameOf p tup f

/-- t is s after accepting a command whose tuple is tup (42_pulse_sequencer.md R173): the tuple, FRAME
and the control position are written, and nothing else changes; no index outside FRAME is touched. -/
def Accepts (s t : State) (tup : Tuple) : Prop :=
  t.tuple = tup ∧ FrameBuilt s.params tup t.frame ∧
  (∀ k, 18 ≤ k → Memory.read t.frame k = Memory.read s.frame k) ∧
  t.state = .sFreq ∧ t.burst = 0 ∧ t.idx = 0 ∧
  t = { s with tuple := t.tuple, frame := t.frame, state := t.state, burst := t.burst, idx := t.idx }

/-- The reachable-state invariant (70_reset_and_hazards.md R232). BURST is one bit wide, so BURST <= 1
needs no clause; "the frame built by the last accept step" is the frame for the tuple that step wrote. -/
def ReachableInv (s : State) : Prop :=
  (∀ n, s.state ≠ .unused n) ∧ s.idx.toNat ≤ 17 ∧
  (s.state = .sFreq ∨ s.state = .sGmark → s.burst = 0) ∧
  (s.state = .sEmark ∨ s.state = .sEspace → s.burst = 1) ∧
  (s.state = .sGmark ∨ s.state = .sGspace ∨ s.state = .sEmark ∨ s.state = .sEspace → s.idx = 17) ∧
  (s.state ≠ .idle → FrameBuilt s.params s.tuple s.frame)

/-- The op words emitted since the stream was base are the first ones of the command in progress, as
many as the control position says; after the last one, all 45. -/
def StreamAt (base : List OpWord) (f : Frame) (s : State) : Prop :=
  s.opStream = base ++ (commandStream s.params f).take s.position

/-- The bits an op word never sets: the reserved ones (30_encoding.md R84) and the fields its kind does
not use (R83). -/
def UnusedZero (w : OpWord) : Prop :=
  w.extractLsb' 2 6 = 0 ∧ w.extractLsb' 16 16 = 0 ∧
  (OpWord.kind w = 0 → OpWord.fieldA w = 0 ∧ OpWord.fieldB w = 0 ∧ OpWord.fieldC w = 0) ∧
  (OpWord.kind w = 1 ∨ OpWord.kind w = 2 → OpWord.b8 w = 0 ∧ OpWord.fieldB w = 0 ∧ OpWord.fieldC w = 0)

/-- The row with MODE value mode is mk, and where the block is ready its command is accepted with the
tuple tup gives, whatever the operands. -/
def RowRuns (mk : CmdOperands → Instr) (mode : BitVec 3) (tup : Params → Variant → CmdOperands → Tuple) : Prop :=
  (∀ w : CmdWord, w.extractLsb' 1 3 = mode → decode (.cmd w) = mk (CmdWord.operands w)) ∧
  ∀ (o : CmdOperands) (s : State), s.cmdReady = true →
    ∃ t, exec (mk o) s = .next t ∧ Accepts s t (tup s.params s.var o)

/-- Where the block is ready, the command word is accepted with the tuple tup gives. -/
def WordGives (w : CmdWord) (tup : Params → Tuple) (s : State) : Prop :=
  s.cmdReady = true → ∃ t, exec (decode (.cmd w)) s = .next t ∧ t.tuple = tup s.params

/-- The block presents w. With op_ready = 0 a step leaves what the service's turn leaves; with
op_ready = 1 the word joins the op stream, the service has it, and the control position is (q, b, k)
(42_pulse_sequencer.md R171; that the service's turn comes first in the step and that it then holds the
word is the model's choice, log entry 6). -/
def OpRuns (s : State) (w : OpWord) (q : SeqState) (b : BitVec 1) (k : BitVec 5) : Prop :=
  s.opWord = some w ∧
  ∃ u, serviceTurn s = .next u ∧
    (s.pins.opReady = false → step s = .next u.endStep) ∧
    (s.pins.opReady = true → step s = .next
      { u with
        opStream := u.opStream ++ [w], accepted := some w, state := q, burst := b, idx := k }.endStep)

/-- A step that enters q from another state does so from one that from_ allows. -/
def EntersOnlyFrom (q : SeqState) (from_ : State → Prop) : Prop :=
  ∀ s t : State, step s = .next t → t.state = q → s.state ≠ q → from_ s

end Sys2Proof.Safety
end

