-- ==== Sys2Proof/Certificates/Slice0/Obligations.lean ====
section
/-! DEFINITION. The statements about HPIR-MITSU for the provers: what the spec's rules say the machine
does, as propositions and nothing more. -/

open Sys2Proof Sys2Proof.Machine Sys2Proof.Safety

/-! ## Encodings -/

/-- Words written out from the layouts of 30_encoding.md decode to the instructions they stand for:
R87's example, the examples of 40_command_translation.md R106 and R109, and op words of R80. -/
def Obligations.WrittenWordsDecode : Prop :=
  decode (.cmd 0x1705#16) = .sendHeat ⟨true, .auto, false, 23⟩ ∧
  decode (.cmd 0xC81B#16) = .sendFan ⟨true, .level1, false, 200⟩ ∧
  decode (.cmd 0x100F#16) = .sendRsv7 ⟨true, .auto, false, 16⟩ ∧
  decode (.cmd 0x1785#16) = .sendHeat ⟨true, .auto, true, 23⟩ ∧
  decode (.op 0x00000000000000000000000000002800#128) = .setfreq 40 ∧
  decode (.op 0x000000000000000000000D4800000001#128) = .mark 3400 ∧
  decode (.op 0x00000000000000000000000000000002#128) = .space 0 ∧
  decode (.op 0x00000514000001A4000001C200000703#128) = .sendbyte 0x07 450 420 1300

/-- Decoding what the encoder writes gives the instruction back, every operand at every value: no bit of
either layout is dropped (30_encoding.md R71, R80). -/
def Obligations.DecodeInvertsEncode : Prop :=
  ∀ i : Instr, decode (encode i) = i

/-- Encoding what a command word decodes to gives the word back: all 16 bits, RSV among them, are
operands or row (30_encoding.md R71, R77). -/
def Obligations.CommandWordsRoundTrip : Prop :=
  ∀ w : CmdWord, encode (decode (.cmd w)) = .cmd w

/-- 30_encoding.md R84: a step emits at most one op word, whose reserved bits and unused fields are zero;
a service ignores those bits: any word reads as the same word with them cleared, and that is the word
the operation it reads would be written as. -/
def Obligations.UnusedOpBitsAreZeroAndIgnored : Prop :=
  (∀ s t : State, step s = .next t →
    t.opStream = s.opStream ∨ ∃ w, t.opStream = s.opStream ++ [w] ∧ UnusedZero w) ∧
  ∀ w : OpWord, UnusedZero (clearUnused w) ∧ decode (.op (clearUnused w)) = decode (.op w) ∧
    encode (decode (.op w)) = .op (clearUnused w)

/-- 30_encoding.md R77: MODE alone selects the row, and POWER, FAN and TEMP are its operands. -/
def Obligations.ModeSelectsTheRow : Prop :=
  ∀ w : CmdWord,
    (w.extractLsb' 1 3 = 1#3 → decode (.cmd w) = .sendAuto (CmdWord.operands w)) ∧
    (w.extractLsb' 1 3 = 2#3 → decode (.cmd w) = .sendHeat (CmdWord.operands w)) ∧
    (w.extractLsb' 1 3 = 3#3 → decode (.cmd w) = .sendCool (CmdWord.operands w)) ∧
    (w.extractLsb' 1 3 = 4#3 → decode (.cmd w) = .sendDry (CmdWord.operands w)) ∧
    (w.extractLsb' 1 3 = 5#3 → decode (.cmd w) = .sendFan (CmdWord.operands w)) ∧
    (w.extractLsb' 1 3 = 6#3 → decode (.cmd w) = .sendMaint (CmdWord.operands w)) ∧
    (w.extractLsb' 1 3 = 0#3 → decode (.cmd w) = .sendRsv0 (CmdWord.operands w)) ∧
    (w.extractLsb' 1 3 = 7#3 → decode (.cmd w) = .sendRsv7 (CmdWord.operands w))

/-- The byte decoder reads the bytes of every port word as that word, and refuses by name every length
but the two fixed ones (30_encoding.md R70; the order of a word's bytes is the model's, log entry 18). -/
def Obligations.BytesDecodeByLength : Prop :=
  (∀ pw : PortWord, decodeBytes pw.bytes = .ok (decode pw)) ∧
  ∀ bs : List Byte, bs.length ≠ 2 → bs.length ≠ 16 → decodeBytes bs = .error (.badLength bs.length)

/-! ## A step runs the decoded instruction -/

/-- In IDLE, with a command offered, no reset and nothing for the service to perform, the step is exec of
the decoded command word and the end of the step's inputs (30_encoding.md R79, 42_pulse_sequencer.md
R172). -/
def Obligations.OfferedCommandRuns : Prop :=
  ∀ (s : State) (i : Instr), s.state = .idle → s.pins.rst = false → s.pins.cmdValid = true →
    s.accepted = none → decode (.cmd s.pins.cmdWord) = i →
    step s = andThen (exec i s) finishStep

/-- Where the service has accepted an op word, the step is exec of the decoded word, then the block's
turn, then the end of the step's inputs (70_reset_and_hazards.md R240; that the service performs it at
the start of the next step is the model's choice, log entry 6). -/
def Obligations.AcceptedOpRuns : Prop :=
  ∀ (s : State) (w : OpWord) (i : Instr), s.accepted = some w → decode (.op w) = i →
    step s = andThen (andThen (exec i { s with accepted := none }) blockTurn) finishStep

/-- A table word placed after reset is the first instruction the machine runs, and exec of it is all
that the step does but for the end of its inputs (the placing is the model's choice, log entry 15). -/
def Obligations.PlacedWordRunsFirst : Prop :=
  ∀ (nbits w : Nat) (i : Instr), decodeTableWord nbits w = some i →
    step (State.reset.withFetchWord nbits w) =
      andThen (exec i { State.reset.withFetchWord nbits w with accepted := none }) finishStep

/-! ## The command rows -/

/-- 40_command_translation.md R102, SEND.AUTO. -/
def Obligations.SendAutoRow : Prop :=
  RowRuns .sendAuto 1
    (fun p _ o => ⟨powerCode p o.power, p.codeModeAuto, fanCode p o.fan, validTemp p.tempRange o.temp false⟩) ∧
  ∀ s, WordGives 0x1923 (fun p => ⟨p.codePowerOn, p.codeModeAuto, p.codeFan2, 25⟩) s

/-- 40_command_translation.md R103, SEND.HEAT; the unrecognized rows give the same. -/
def Obligations.SendHeatRow : Prop :=
  RowRuns .sendHeat 2
    (fun p _ o => ⟨powerCode p o.power, p.codeModeHeat, fanCode p o.fan, validTemp p.tempRange o.temp false⟩) ∧
  (∀ (o : CmdOperands) (s : State),
    exec (.sendRsv0 o) s = exec (.sendHeat o) s ∧ exec (.sendRsv7 o) s = exec (.sendHeat o) s) ∧
  ∀ s, WordGives 0x1705 (fun p => ⟨p.codePowerOn, p.codeModeHeat, p.codeFanAuto, 23⟩) s

/-- 40_command_translation.md R104, SEND.COOL: M as for SEND.FAN, T not forced. -/
def Obligations.SendCoolRow : Prop :=
  RowRuns .sendCool 3
    (fun p _ o => ⟨powerCode p o.power, p.codeModeCool, fanCode p o.fan, validTemp p.tempRange o.temp false⟩) ∧
  ∀ s, WordGives 0x1436 (fun p => ⟨p.codePowerOff, p.codeModeCool, p.codeFan3, 20⟩) s

/-- 40_command_translation.md R105, SEND.DRY. -/
def Obligations.SendDryRow : Prop :=
  RowRuns .sendDry 4
    (fun p _ o => ⟨powerCode p o.power, p.codeModeDry, fanCode p o.fan, validTemp p.tempRange o.temp false⟩) ∧
  ∀ s, WordGives 0x1149 (fun p => ⟨p.codePowerOn, p.codeModeDry, p.codeFan4, 17⟩) s

/-- 40_command_translation.md R106, SEND.FAN: COOL's code, T = 31 whatever TEMP, the caller's FAN. -/
def Obligations.SendFanRow : Prop :=
  RowRuns .sendFan 5 (fun p _ o => ⟨powerCode p o.power, p.codeModeCool, fanCode p o.fan, 31⟩) ∧
  ∀ s, WordGives 0xC81B (fun p => ⟨p.codePowerOn, p.codeModeCool, p.codeFan1, 31⟩) s

/-- 40_command_translation.md R107, SEND.MAINT: on the supporting variant HEAT, fan AUTO and T = 10
whatever FAN and TEMP; on the plain variant exactly the unrecognized row. -/
def Obligations.SendMaintRow : Prop :=
  RowRuns .sendMaint 6 (fun p v o =>
    match v with
    | .supporting => ⟨powerCode p o.power, p.codeModeHeat, p.codeFanAuto, 10⟩
    | .plain => ⟨powerCode p o.power, p.codeModeHeat, fanCode p o.fan, validTemp p.tempRange o.temp false⟩) ∧
  (∀ (o : CmdOperands) (s : State), s.var = .plain → exec (.sendMaint o) s = exec (.sendRsv0 o) s) ∧
  (∀ s : State, s.var = .supporting →
    WordGives 0x193D (fun p => ⟨p.codePowerOn, p.codeModeHeat, p.codeFanAuto, 10⟩) s) ∧
  ∀ s : State, s.var = .plain →
    WordGives 0x193D (fun p => ⟨p.codePowerOn, p.codeModeHeat, p.codeFan3, 25⟩) s

/-- 40_command_translation.md R109, the unrecognized modes 0 and 7: M keeps HEAT's code. -/
def Obligations.UnrecognizedModeRows : Prop :=
  RowRuns .sendRsv0 0
    (fun p _ o => ⟨powerCode p o.power, p.codeModeHeat, fanCode p o.fan, validTemp p.tempRange o.temp false⟩) ∧
  RowRuns .sendRsv7 7
    (fun p _ o => ⟨powerCode p o.power, p.codeModeHeat, fanCode p o.fan, validTemp p.tempRange o.temp false⟩) ∧
  (∀ (o : CmdOperands) (s : State),
    exec (.sendRsv0 o) s = exec (.sendHeat o) s ∧ exec (.sendRsv7 o) s = exec (.sendHeat o) s) ∧
  ∀ s, WordGives 0x100F (fun p => ⟨p.codePowerOn, p.codeModeHeat, p.codeFanAuto, 23⟩) s

/-- 40_command_translation.md R101: bit 0 of any command word picks the power code. -/
def Obligations.PowerBitPicksTheCode : Prop :=
  (∀ (w : CmdWord) (s : State), s.cmdReady = true → ∃ t, exec (decode (.cmd w)) s = .next t ∧
    t.tuple.p = if w.getLsbD 0 then s.params.codePowerOn else s.params.codePowerOff) ∧
  ∀ s : State, s.cmdReady = true → ∃ t, exec (decode (.cmd 0x1704)) s = .next t ∧
    t.tuple.p = s.params.codePowerOff

/-- 40_command_translation.md R111, R112, R113: the fan code of any command word, AUTO for the
unrecognized values and for maintenance on the supporting variant. -/
def Obligations.FanFieldPicksTheCode : Prop :=
  ∀ (w : CmdWord) (s : State), s.cmdReady = true → ∃ t, exec (decode (.cmd w)) s = .next t ∧
    ((w.extractLsb' 1 3 = 6#3 ∧ s.var = .supporting → t.tuple.f = s.params.codeFanAuto) ∧
     (¬ (w.extractLsb' 1 3 = 6#3 ∧ s.var = .supporting) →
       (w.extractLsb' 4 3 = 0#3 → t.tuple.f = s.params.codeFanAuto) ∧
       (w.extractLsb' 4 3 = 1#3 → t.tuple.f = s.params.codeFan1) ∧
       (w.extractLsb' 4 3 = 2#3 → t.tuple.f = s.params.codeFan2) ∧
       (w.extractLsb' 4 3 = 3#3 → t.tuple.f = s.params.codeFan3) ∧
       (w.extractLsb' 4 3 = 4#3 → t.tuple.f = s.params.codeFan4) ∧
       (5 ≤ (w.extractLsb' 4 3).toNat → t.tuple.f = s.params.codeFanAuto)))

/-- 40_command_translation.md R115 and R116: outside maintenance, T is the caller's temperature where the
reading accepts it and 23 where not, and 31 in the FAN row under both readings. -/
def Obligations.TemperatureIsValidated : Prop :=
  ∀ (w : CmdWord) (s : State), s.cmdReady = true →
    ¬ (w.extractLsb' 1 3 = 6#3 ∧ s.var = .supporting) →
    ∃ t, exec (decode (.cmd w)) s = .next t ∧
      (w.extractLsb' 1 3 = 5#3 → t.tuple.t = 31) ∧
      (w.extractLsb' 1 3 ≠ 5#3 →
        (s.params.tempRange = .open16to32 →
          (17 ≤ (w.extractLsb' 8 8).toNat ∧ (w.extractLsb' 8 8).toNat ≤ 31 → t.tuple.t = w.extractLsb' 8 8) ∧
          ((w.extractLsb' 8 8).toNat ≤ 16 ∨ 32 ≤ (w.extractLsb' 8 8).toNat → t.tuple.t = 23)) ∧
        (s.params.tempRange = .halfOpen17to31 →
          (17 ≤ (w.extractLsb' 8 8).toNat ∧ (w.extractLsb' 8 8).toNat ≤ 30 → t.tuple.t = w.extractLsb' 8 8) ∧
          ((w.extractLsb' 8 8).toNat ≤ 16 ∨ 31 ≤ (w.extractLsb' 8 8).toNat → t.tuple.t = 23)))

/-- T = 10 exactly in maintenance on the supporting variant, 17 to 31 otherwise, and under the
alternative reading 31 in the FAN row only (40_command_translation.md section 5, 10_state.md R26). -/
def Obligations.TenMeansMaintenance : Prop :=
  ∀ (w : CmdWord) (s : State), s.cmdReady = true → ∃ t, exec (decode (.cmd w)) s = .next t ∧
    (t.tuple.t = 10 ↔ w.extractLsb' 1 3 = 6#3 ∧ s.var = .supporting) ∧
    (t.tuple.t ≠ 10 → 17 ≤ t.tuple.t.toNat ∧ t.tuple.t.toNat ≤ 31) ∧
    (s.params.tempRange = .halfOpen17to31 → t.tuple.t = 31 → w.extractLsb' 1 3 = 5#3)

/-- 40_command_translation.md R119: the decoded rows compute the spec's whole translator, written over
the bits of the raw word. -/
def Obligations.RowsComputeNormalize : Prop :=
  ∀ (w : CmdWord) (s : State), s.cmdReady = true →
    exec (decode (.cmd w)) s = .next (s.accept (normalizeWord s.params w s.var))

/-- 40_command_translation.md R118: every command word is accepted, under both variants, and none faults
or is refused. -/
def Obligations.TranslatorIsTotal : Prop :=
  ∀ (w : CmdWord) (v : Variant) (s : State), s.var = v → s.cmdReady = true →
    ∃ t tup, exec (decode (.cmd w)) s = .next t ∧ Accepts s t tup

/-- 40_command_translation.md R110: flipping POWER changes P alone in the tuple, and so only bytes 5
and 17 of the frame. -/
def Obligations.PowerAndModeIndependent : Prop :=
  ∀ (w : CmdWord) (s : State), s.cmdReady = true → ∃ t t',
    exec (decode (.cmd w)) s = .next t ∧ exec (decode (.cmd (w ^^^ 0x0001#16))) s = .next t' ∧
    t.tuple.p = (if w.getLsbD 0 then s.params.codePowerOn else s.params.codePowerOff) ∧
    t'.tuple.p = (if w.getLsbD 0 then s.params.codePowerOff else s.params.codePowerOn) ∧
    t'.tuple = { t.tuple with p := t'.tuple.p } ∧
    ∀ k, k ≠ 5 → k ≠ 17 → Memory.read t'.frame k = Memory.read t.frame k

/-- 30_encoding.md R76: two command words that differ only in bit 7 do the same. -/
def Obligations.ReservedBitIgnored : Prop :=
  ∀ (w : CmdWord) (s : State),
    exec (decode (.cmd (w ^^^ 0x0080#16))) s = exec (decode (.cmd w)) s

/-- A command where cmd_ready = 0 waits: exec changes nothing, and outside IDLE, or in reset, a step is
the same whatever the command port says (30_encoding.md section 2; 95_test_vectors.md Q12; that exec then
answers the state itself is the model's choice, log entry 17). -/
def Obligations.UnreadyCommandWaits : Prop :=
  (∀ (w : CmdWord) (s : State), s.cmdReady = false → exec (decode (.cmd w)) s = .next s) ∧
  ∀ (s : State) (p : Pins) (rest : List Pins) (v : Bool) (w : CmdWord), s.script = p :: rest →
    (s.state ≠ .idle ∨ p.rst = true) →
    step { s with script := { p with cmdValid := v, cmdWord := w } :: rest } = step s

/-- A host that saturates a wider temperature loses nothing the block uses (30_encoding.md R75), and
truncation of 273 would be accepted as 17 (70_reset_and_hazards.md R241). -/
def Obligations.SaturationLosesNothing : Prop :=
  (∀ (r : TempRangeReading) (t : Int),
    ((validTemp r (saturateTemp t) false).toNat : Int) = if acceptDegrees r t then t else 23) ∧
  ∀ r : TempRangeReading, BitVec.ofInt 8 273 = (17 : Byte) ∧ acceptTemp r (BitVec.ofInt 8 273) false = true ∧
    acceptDegrees r 273 = false

/-! ## The frame builder -/

/-- 41_frame_builder.md R147 and R149: what the build puts in each of the 18 bytes. -/
def Obligations.BuildMakesTheFrame : Prop :=
  ∀ (p : Params) (tup : Tuple), IsFrameOf p tup (build p tup)

/-- 41_frame_builder.md R143: the encoder's whole table. -/
def Obligations.TemperatureEncoderTable : Prop :=
  ∀ (p : Params) (tup : Tuple),
    (tup.t = 10 → (build p tup)[7] = 0x00 ∧ (build p tup)[15] = 0x20) ∧
    (∀ d : Fin 15, tup.t.toNat = 17 + d.val →
      (build p tup)[7].toNat = 1 + d.val ∧ (build p tup)[15] = 0x40) ∧
    (tup.t = 10 ∨ (17 ≤ tup.t.toNat ∧ tup.t.toNat ≤ 31) → (build p tup)[7].extractLsb' 4 4 = 0)

/-- 41_frame_builder.md R150: the checksum in closed form. -/
def Obligations.ChecksumClosedForm : Prop :=
  ∀ (p : Params) (tup : Tuple),
    (build p tup)[17] =
      sum8 [p.template[0], p.template[1], p.template[2], p.template[3], p.template[4], p.template[8],
        p.template[10], p.template[11], p.template[12], p.template[13], p.template[14], p.template[16]]
      + tup.p + tup.m + (build p tup)[7] + tup.f + (build p tup)[15]

/-! ## The sequencer -/

/-- 40_command_translation.md section 1 and 42_pulse_sequencer.md section 1: the accept step, the only way
out of IDLE and the only writer of FRAME; no op is emitted in it. That the service's turn u, which
touches the service's own fields alone, comes in the same step before the block's is the model's choice
(log entry 6). -/
def Obligations.AcceptStep : Prop :=
  (∀ s : State, s.state = .idle → s.pins.rst = false → s.pins.cmdValid = true →
    ∃ u t, serviceTurn s = .next u ∧ step s = .next t ∧
      u = { s with accepted := none, carrier := u.carrier, air := u.air } ∧ s.busy = false ∧
      (t.pins.rst = false → t.busy = true) ∧
      t.tuple = normalizeWord s.params s.pins.cmdWord s.var ∧
      FrameBuilt s.params t.tuple t.frame ∧
      (∀ k, 18 ≤ k → Memory.read t.frame k = Memory.read s.frame k) ∧
      t.opStream = s.opStream ∧
      t = { u.endStep with tuple := t.tuple, frame := t.frame, state := .sFreq, burst := 0, idx := 0 }) ∧
  (∀ s t : State, step s = .next t → (s.state = .idle ∧ t.state ≠ .idle ∨ t.frame ≠ s.frame) →
    s.state = .idle ∧ s.pins.rst = false ∧ s.pins.cmdValid = true) ∧
  ∀ s : State, s.state = .idle → s.pins.rst = false → s.pins.cmdValid = true →
    s.pins.cmdWord = 0x1705 → ∃ t, step s = .next t ∧ t.state = .sFreq ∧ Memory.read t.frame 7 = some 0x07

/-- 42_pulse_sequencer.md section 1: what IDLE drives; with no command offered nothing changes, for any
number of steps; with one the accept transition fires. The service's turn u in the same step is the
model's choice (log entry 6). -/
def Obligations.IdleWaits : Prop :=
  (∀ s : State, s.state = .idle → s.pins.rst = false →
    s.opValid = false ∧ s.cmdReady = true ∧ s.busy = false ∧
    (s.pins.cmdValid = false → ∃ u, serviceTurn s = .next u ∧ step s = .next u.endStep) ∧
    (s.pins.cmdValid = true → ∃ t, step s = .next t ∧ t.state = .sFreq)) ∧
  ∀ (ps rest : List Pins) (s : State), s.state = .idle → s.script = ps ++ rest →
    (∀ p ∈ ps, p.rst = false ∧ p.cmdValid = false) →
    ∃ t, Host.Core.run Sys2Proof.core ps.length s = .next t ∧ t.state = .idle ∧ t.burst = s.burst ∧
      t.idx = s.idx ∧ t.tuple = s.tuple ∧ t.frame = s.frame ∧ t.var = s.var ∧
      t.opStream = s.opStream ∧ t.script = rest

/-- 42_pulse_sequencer.md section 1: the op step, common to every state that presents an op; the word
joins the op stream once, in the step with op_ready = 1. The service's turn u at the start of the step
and its holding the word are the model's choice (log entry 6). -/
def Obligations.OpStepTransfersOnce : Prop :=
  ∀ (s : State) (w : OpWord), s.opWord = some w → ∃ u, serviceTurn s = .next u ∧
    (s.pins.opReady = false → step s = .next u.endStep) ∧
    (s.pins.opReady = true → step s = .next (u.transfer w).advance.endStep ∧
      (u.transfer w).advance.opStream = s.opStream ++ [w])

/-- 42_pulse_sequencer.md section 1: S_FREQ presents SETFREQ 40 and goes to S_HMARK; every command's first
op is that one, since the accept step enters S_FREQ. What OpRuns
says of the service, that it takes its turn at the start of the step and then holds the word, is the
model's choice (log entry 6). -/
def Obligations.FreqStatePresentsCarrier : Prop :=
  (∀ s : State, s.state = .sFreq → s.pins.rst = false →
    OpRuns s (OpWord.setfreq 40) .sHmark s.burst s.idx) ∧
  OpWord.setfreq 40 = 0x2800#128 ∧
  ∀ s t : State, step s = .next t → s.state = .idle → t.state ≠ .idle → t.state = .sFreq

/-- 42_pulse_sequencer.md section 1: the header mark, reached from S_FREQ for burst 0 and from S_GSPACE
for burst 1, and the header space. What OpRuns
says of the service, that it takes its turn at the start of the step and then holds the word, is the
model's choice (log entry 6). -/
def Obligations.HeaderStates : Prop :=
  (∀ s : State, s.state = .sHmark → s.pins.rst = false →
    OpRuns s (OpWord.mark s.params.hdrMarkUs) .sHspace s.burst s.idx) ∧
  (∀ s t : State, ReachableInv s → step s = .next t → t.state = .sHmark → s.state ≠ .sHmark →
    (s.state = .sFreq ∧ t.burst = 0) ∨ (s.state = .sGspace ∧ t.burst = 1)) ∧
  ∀ s : State, s.state = .sHspace → s.pins.rst = false →
    OpRuns s (OpWord.space s.params.hdrSpaceUs) .sData s.burst 0

/-- 42_pulse_sequencer.md section 1: S_DATA sends FRAME[IDX], counts from 0 to 17 and no further, then
leaves for the gap after burst 0 and for the end mark after burst 1. What OpRuns
says of the service, that it takes its turn at the start of the step and then holds the word, is the
model's choice (log entry 6). -/
def Obligations.DataStateSendsTheFrame : Prop :=
  (∀ (s : State) (b : Byte), s.state = .sData → s.pins.rst = false →
    Memory.read s.frame s.idx.toNat = some b →
    (s.idx.toNat < 17 → OpRuns s
      (OpWord.sendbyte b s.params.bitMarkUs s.params.zeroSpaceUs s.params.oneSpaceUs)
      .sData s.burst (s.idx + 1)) ∧
    (s.idx = 17 → s.burst = 0 → OpRuns s
      (OpWord.sendbyte b s.params.bitMarkUs s.params.zeroSpaceUs s.params.oneSpaceUs)
      .sGmark s.burst s.idx) ∧
    (s.idx = 17 → s.burst = 1 → OpRuns s
      (OpWord.sendbyte b s.params.bitMarkUs s.params.zeroSpaceUs s.params.oneSpaceUs)
      .sEmark s.burst s.idx)) ∧
  (∀ s t : State, step s = .next t → t.state = .sData → s.state ≠ .sData →
    s.state = .sHspace ∧ t.idx = 0) ∧
  (∀ s t : State, s.idx.toNat ≤ 17 → step s = .next t → t.idx.toNat ≤ 17) ∧
  ∀ s : State, ReachableInv s → s.state = .sData → s.pins.rst = false → s.burst = 0 → s.idx = 7 →
    s.tuple.t = 23 →
    s.opWord = some
      (OpWord.sendbyte 0x07 s.params.bitMarkUs s.params.zeroSpaceUs s.params.oneSpaceUs)

/-- 42_pulse_sequencer.md section 1: the gap, reached only after burst 0; leaving it is the only write of
BURST = 1, and BURST goes back to 0 only with a new command or a reset, so the gap comes once per
command. What OpRuns
says of the service, that it takes its turn at the start of the step and then holds the word, is the
model's choice (log entry 6). -/
def Obligations.GapStates : Prop :=
  (∀ s : State, s.state = .sGmark → s.pins.rst = false →
    OpRuns s (OpWord.mark s.params.bitMarkUs) .sGspace s.burst s.idx) ∧
  EntersOnlyFrom .sGmark (fun s => s.state = .sData ∧ s.burst = 0) ∧
  (∀ s : State, s.state = .sGspace → s.pins.rst = false →
    OpRuns s (OpWord.space s.params.msgSpaceUs) .sHmark 1 s.idx) ∧
  EntersOnlyFrom .sGspace (fun s => s.state = .sGmark) ∧
  (∀ s t : State, step s = .next t → s.burst = 0 → t.burst = 1 → s.state = .sGspace) ∧
  ∀ s t : State, step s = .next t → s.burst = 1 → t.burst = 0 →
    s.pins.rst = true ∨ (s.state = .idle ∧ s.pins.cmdValid = true)

/-- 42_pulse_sequencer.md section 1: the end mark, reached only after burst 1, and the zero-length space,
after which the block is idle with BURST and IDX as they were (1 and 17) and busy down. What OpRuns
says of the service, that it takes its turn at the start of the step and then holds the word, is the
model's choice (log entry 6). -/
def Obligations.EndMarkStates : Prop :=
  (∀ s : State, s.state = .sEmark → s.pins.rst = false →
    OpRuns s (OpWord.mark s.params.bitMarkUs) .sEspace s.burst s.idx) ∧
  EntersOnlyFrom .sEmark (fun s => s.state = .sData ∧ s.burst = 1) ∧
  (∀ s : State, s.state = .sEspace → s.pins.rst = false →
    OpRuns s (OpWord.space 0) .idle s.burst s.idx) ∧
  ∀ s t : State, ReachableInv s → s.state = .sEspace → s.pins.rst = false → s.pins.opReady = true →
    step s = .next t → s.busy = true ∧ t.busy = false ∧ t.burst = 1 ∧ t.idx = 17

/-- 10_state.md R32: only a completed handshake moves (STATE, BURST, IDX), and over one command it moves
one position forward at a time through the 45 positions. -/
def Obligations.ControlMovesForward : Prop :=
  ∀ s t : State, ReachableInv s → s.pins.rst = false → step s = .next t →
    ((s.state = .idle → s.pins.cmdValid = false) ∧ (s.state ≠ .idle → s.pins.opReady = false) ∧
      t.state = s.state ∧ t.burst = s.burst ∧ t.idx = s.idx) ∨
    (s.state = .idle ∧ s.pins.cmdValid = true ∧ t.position = 0) ∨
    (s.state ≠ .idle ∧ s.pins.opReady = true ∧ t.position = s.position + 1 ∧ t.position ≤ 45)

/-- 20_memory.md R57: while op_ready = 0 and no reset comes, the same op word stays on the port. -/
def Obligations.OfferedWordIsStable : Prop :=
  ∀ (s t : State) (w : OpWord), s.opWord = some w → s.pins.opReady = false → step s = .next t →
    t.pins.rst = false → t.opWord = some w ∧ t.opValid = true ∧ t.opStream = s.opStream

/-- 60_exceptions.md R212: a service that never raises op_ready leaves the block holding its op, busy
and not ready, for any number of steps. -/
def Obligations.StalledServiceHoldsTheBlock : Prop :=
  ∀ (ps rest : List Pins) (s : State) (w : OpWord), s.script = ps ++ rest → ps ≠ [] →
    (∀ p ∈ ps, p.rst = false ∧ p.opReady = false) → s.opWord = some w →
    ∃ t, Host.Core.run Sys2Proof.core ps.length s = .next t ∧
      t.state = s.state ∧ t.burst = s.burst ∧ t.idx = s.idx ∧ t.frame = s.frame ∧
      t.opStream = s.opStream ∧ t.script = rest ∧
      (t.pins.rst = false → t.opWord = some w ∧ t.busy = true ∧ t.cmdReady = false)

/-! ## The operations of the service -/

/-- 42_pulse_sequencer.md R191: SETFREQ sets the carrier and nothing else, a repeat has no further
effect, and the block presents no carrier but 40. -/
def Obligations.SetfreqSetsTheCarrier : Prop :=
  (∀ (khz : Byte) (s : State), exec (.setfreq khz) s = .next { s with carrier := some khz }) ∧
  (∀ (khz : Byte) (s : State), s.carrier = some khz → exec (.setfreq khz) s = .next s) ∧
  ∀ (s : State) (w : OpWord) (khz : Byte), s.opWord = some w → decode (.op w) = .setfreq khz → khz = 40

/-- 42_pulse_sequencer.md R192: MARK emits the carrier for its duration and changes nothing else. -/
def Obligations.MarkEmitsTheCarrier : Prop :=
  ∀ (us : Micros) (s : State), exec (.mark us) s = .next { s with air := s.air ++ [.mark us] }

/-- SPACE emits no carrier for its duration, zero included, and changes nothing else
(42_pulse_sequencer.md section 4). -/
def Obligations.SpaceEmitsSilence : Prop :=
  ∀ (us : Micros) (s : State), exec (.space us) s = .next { s with air := s.air ++ [.space us] }

/-- 42_pulse_sequencer.md R188 and R194: SENDBYTE emits eight mark/space pairs in BIT_ORDER, the space
telling the bit, and changes nothing else. -/
def Obligations.SendbyteEmitsTheBits : Prop :=
  ∀ (b : Byte) (bm zs os : Micros) (s : State), ∃ ps,
    exec (.sendbyte b bm zs os) s = .next { s with air := s.air ++ ps } ∧ ps.length = 16 ∧
    ∀ j : Fin 8, ps[2 * j.val]? = some (.mark bm) ∧
      (s.params.bitOrder = .lsbFirst →
        ps[2 * j.val + 1]? = some (.space (if b.getLsbD j.val then os else zs))) ∧
      (s.params.bitOrder = .msbFirst →
        ps[2 * j.val + 1]? = some (.space (if b.getLsbD (7 - j.val) then os else zs)))

/-! ## One whole command -/

/-- 42_pulse_sequencer.md R185 and R186: the reference stream has 45 words, at the positions of the
table, and its two bursts are equal word for word. -/
def Obligations.CommandStreamPositions : Prop :=
  ∀ (p : Params) (f : Frame),
    (commandStream p f).length = 45 ∧
    (commandStream p f)[0]? = some (OpWord.setfreq 40) ∧
    (commandStream p f)[1]? = some (OpWord.mark p.hdrMarkUs) ∧
    (commandStream p f)[2]? = some (OpWord.space p.hdrSpaceUs) ∧
    (∀ k : Fin 18,
      (commandStream p f)[3 + k.val]? =
        some (OpWord.sendbyte f[k] p.bitMarkUs p.zeroSpaceUs p.oneSpaceUs) ∧
      (commandStream p f)[25 + k.val]? = (commandStream p f)[3 + k.val]?) ∧
    (commandStream p f)[21]? = some (OpWord.mark p.bitMarkUs) ∧
    (commandStream p f)[22]? = some (OpWord.space p.msgSpaceUs) ∧
    (commandStream p f)[23]? = some (OpWord.mark p.hdrMarkUs) ∧
    (commandStream p f)[24]? = some (OpWord.space p.hdrSpaceUs) ∧
    (commandStream p f)[43]? = some (OpWord.mark p.bitMarkUs) ∧
    (commandStream p f)[44]? = some (OpWord.space 0)

/-- The stream of a command under every schedule of op_ready: after the accept step, and after every
step without reset until the block is idle again, the op words emitted for the command are the first
ones of the 45, as many as the control position says; back in IDLE they are all 45
(42_pulse_sequencer.md section 2, 93_implementation_defined.md I15). -/
def Obligations.StreamFollowsThePosition : Prop :=
  (∀ s t : State, s.state = .idle → s.pins.rst = false → s.pins.cmdValid = true → step s = .next t →
    ∃ f, Holds t.frame f ∧ IsFrameOf t.params t.tuple f ∧ StreamAt s.opStream f t) ∧
  ∀ (base : List OpWord) (f : Frame) (s t : State), ReachableInv s → Holds s.frame f → s.state ≠ .idle →
    s.pins.rst = false → StreamAt base f s → step s = .next t →
    StreamAt base f t ∧ Holds t.frame f ∧ t.params = s.params ∧ t.tuple = s.tuple

/-- 42_pulse_sequencer.md R185: a command accepted from IDLE, with a service ready in every step, has
emitted exactly the 45 op words in 46 steps and left the block idle. -/
def Obligations.WholeCommandEmitsTheStream : Prop :=
  ∀ (s : State) (p0 : Pins) (ps rest : List Pins), s.state = .idle → p0.rst = false →
    p0.cmdValid = true → ps.length = 45 → (∀ p ∈ ps, p.rst = false ∧ p.opReady = true) →
    s.script = p0 :: ps ++ rest →
    ∃ t f, Host.Core.run Sys2Proof.core 46 s = .next t ∧
      t.tuple = normalizeWord s.params p0.cmdWord s.var ∧ IsFrameOf s.params t.tuple f ∧
      Holds t.frame f ∧ t.opStream = s.opStream ++ commandStream s.params f ∧
      t.state = .idle ∧ t.burst = 1 ∧ t.idx = 17 ∧ t.var = s.var ∧ t.params = s.params ∧ t.script = rest

/-- One quiet step after a whole command the service has put all of its intervals on the air and its
carrier is 40 kHz (42_pulse_sequencer.md sections 3 and 4; when the service performs an op is the
model's choice, log entry 6). -/
def Obligations.WholeCommandReachesTheAir : Prop :=
  ∀ (s : State) (p0 q : Pins) (ps rest : List Pins), s.state = .idle → s.accepted = none →
    p0.rst = false → p0.cmdValid = true → ps.length = 45 →
    (∀ p ∈ ps, p.rst = false ∧ p.opReady = true) → q.rst = false → q.cmdValid = false →
    s.script = p0 :: ps ++ q :: rest →
    ∃ t f, Host.Core.run Sys2Proof.core 47 s = .next t ∧
      IsFrameOf s.params (normalizeWord s.params p0.cmdWord s.var) f ∧
      t.air = s.air ++ streamPulses s.params.bitOrder (commandStream s.params f) ∧
      t.carrier = some 40 ∧ t.accepted = none ∧ t.state = .idle

/-- 42_pulse_sequencer.md R189: 584 intervals, marks and spaces in turn from a mark on, 292 of each, the
last of length 0. -/
def Obligations.PulseCounts : Prop :=
  ∀ (p : Params) (f : Frame) (order : BitOrder),
    (streamPulses order (commandStream p f)).length = 584 ∧
    (∀ (i : Nat) (x : Pulse), (streamPulses order (commandStream p f))[i]? = some x →
      x.isMark = decide (i % 2 = 0)) ∧
    (streamPulses order (commandStream p f)).countP (fun x => x.isMark) = 292 ∧
    (streamPulses order (commandStream p f)).countP (fun x => !x.isMark) = 292 ∧
    (streamPulses order (commandStream p f))[583]? = some (.space 0)

/-- 42_pulse_sequencer.md R190: the nominal air time of one command. -/
def Obligations.NominalAirTime : Prop :=
  ∀ (p : Params) (f : Frame) (order : BitOrder),
    airTime (streamPulses order (commandStream p f)) =
      2 * (p.hdrMarkUs.toNat + p.hdrSpaceUs.toNat) + 290 * p.bitMarkUs.toNat
      + 2 * framePopcount f * p.oneSpaceUs.toNat
      + (288 - 2 * framePopcount f) * p.zeroSpaceUs.toNat + p.msgSpaceUs.toNat

/-- 42_pulse_sequencer.md R195: the step after S_ESPACE's handshake may accept the next command, whose
first op is SETFREQ 40 again. -/
def Obligations.CommandsBackToBack : Prop :=
  ∀ (s : State) (p q r : Pins) (rest : List Pins), s.state = .sEspace → s.script = p :: q :: r :: rest →
    p.rst = false → p.opReady = true → q.rst = false → q.cmdValid = true → r.rst = false →
    ∃ t, Host.Core.run Sys2Proof.core 2 s = .next t ∧ t.state = .sFreq ∧
      t.tuple = normalizeWord s.params q.cmdWord s.var ∧
      t.opStream = s.opStream ++ [OpWord.space 0] ∧ t.opWord = some (OpWord.setfreq 40)

/-! ## Reset -/

/-- 70_reset_and_hazards.md section 1: what a step with rst = 1 writes, drives and leaves alone; with rst
released cmd_ready is 1. That the service still takes its turn u in that step, first, is the model's
choice (log entries 6 and 22). -/
def Obligations.ResetStep : Prop :=
  ∀ s : State, s.pins.rst = true →
    s.opValid = false ∧ s.busy = false ∧ s.cmdReady = false ∧
    ∃ u t, serviceTurn s = .next u ∧ step s = .next t ∧
      t = { u with var := s.pins.cfgVariant, state := .idle, burst := 0, idx := 0 }.endStep ∧
      t.tuple = s.tuple ∧ t.frame = s.frame ∧ t.opStream = s.opStream ∧
      (t.pins.rst = false → t.cmdReady = true)

/-- After reset the block is idle with BURST and IDX 0, VAR is the strap, FRAME holds nothing, nothing
has been emitted or accepted and no carrier is set; whatever inputs follow, busy and op_valid are 0, and
cmd_ready is 1 unless they hold reset (10_state.md section 8, 70_reset_and_hazards.md section 1; the op
stream and the service are the model's fields, log entries 6 to 8 and 21). -/
def Obligations.ResetValues : Prop :=
  State.reset.state = .idle ∧ State.reset.burst = 0 ∧ State.reset.idx = 0 ∧
  State.reset.var = Config.strap ∧ (∀ k, Memory.read State.reset.frame k = none) ∧
  (∀ script : List Pins,
    ({ State.reset with script := script } : State).busy = false ∧
    ({ State.reset with script := script } : State).opValid = false ∧
    (({ State.reset with script := script } : State).pins.rst = false →
      ({ State.reset with script := script } : State).cmdReady = true)) ∧
  State.reset.opStream = [] ∧ State.reset.accepted = none ∧ State.reset.carrier = none ∧
  State.reset.air = []

/-- 10_state.md R22: VAR is written by reset alone, from cfg_variant; only the MAINTENANCE row reads it;
cfg_variant outside reset has no effect. -/
def Obligations.VariantFixedByReset : Prop :=
  (∀ s t : State, step s = .next t → t.var = if s.pins.rst then s.pins.cfgVariant else s.var) ∧
  (∀ (i : Instr) (s t : State) (v : Variant), (∀ o, i ≠ .sendMaint o) → exec i s = .next t →
    t.var = s.var ∧ exec i { s with var := v } = .next { t with var := v }) ∧
  ∀ (s : State) (p : Pins) (rest : List Pins) (v : Variant), s.script = p :: rest → p.rst = false →
    step { s with script := { p with cfgVariant := v } :: rest } = step s

/-! ## Invariants and stops -/

/-- Every step keeps the reachable-state invariant, from every state that meets it, and there the machine
always takes a step: no fault, no refusal (70_reset_and_hazards.md section 1, 60_exceptions.md section 1,
10_state.md section 8). -/
def Obligations.InvariantKept : Prop :=
  (∀ s t : State, ReachableInv s → step s = .next t → ReachableInv t) ∧
  ∀ s : State, ReachableInv s → ∃ t, step s = .next t

/-- The invariant and FRAME's canonical form hold at State.reset (70_reset_and_hazards.md section 1; the
canonical form is the model's, log entry 3). -/
def Obligations.ResetMeetsTheInvariant : Prop :=
  ReachableInv State.reset ∧ Memory.wf State.reset.frame

/-- 70_reset_and_hazards.md R232 over runs: from State.reset, with any inputs scripted and any after the
script, every number of steps is taken and ends in a state that meets the invariant. -/
def Obligations.ReachableStatesMeetTheInvariant : Prop :=
  ∀ (script : List Pins) (n : Nat), ∃ t,
    Host.Core.run Sys2Proof.core n { State.reset with script := script } = .next t ∧ ReachableInv t

/-- Every step keeps FRAME's canonical form (20_memory.md section 1; the form is the model's, log
entry 3) and every parameter (10_state.md section 6). -/
def Obligations.StepKeepsFormAndParameters : Prop :=
  ∀ s t : State, step s = .next t → t.params = s.params ∧ (Memory.wf s.frame → Memory.wf t.frame)

/-- 20_memory.md R56: the accept step writes a whole frame at once, and no step of the transmission
changes it. -/
def Obligations.FrameSteadyInTransmission : Prop :=
  (∀ s t : State, s.state = .idle → t.state = .sFreq → step s = .next t →
    FrameBuilt t.params t.tuple t.frame) ∧
  ∀ s t : State, s.state ≠ .idle → step s = .next t → t.frame = s.frame ∧ t.tuple = s.tuple

/-- The machine stops only by the three model-only faults of 60_exceptions.md R211, exactly where they
say and never in reset, and never by a refusal (that a stalled step and a ready one fault alike is the
model's choice, log entry 16). -/
def Obligations.StopsAreModelOnlyFaults : Prop :=
  (∀ (s : State) (r : Refusal), step s ≠ .refused r) ∧
  ∀ (s : State) (e : Fault), step s = .fault e ↔ s.pins.rst = false ∧
    ((∃ n, s.state = .unused n ∧ e = .unusedState n) ∨
     (s.state = .sData ∧ 17 < s.idx.toNat ∧ e = .idxOutOfRange s.idx.toNat) ∨
     (s.state = .sData ∧ s.idx.toNat ≤ 17 ∧ Memory.read s.frame s.idx.toNat = none ∧
       e = .frameUnwritten s.idx.toNat))
end

