-- ==== Sys2Proof/Laws/Decode.lean ====
section
/-! SUPPORT. The fields of a packed word, bit by bit and field by field (30_encoding.md R71, R80). -/

namespace Sys2Proof

theorem CmdWord.getLsbD_pack (mode : BitVec 3) (o : CmdOperands) (i : Nat) :
    (CmdWord.pack mode o).getLsbD i =
      if i < 1 then decide (i = 0) && o.power
      else if i < 4 then mode.getLsbD (i - 1)
      else if i < 7 then (FanSel.bits o.fan).getLsbD (i - 4)
      else if i < 8 then decide (i = 7) && o.rsv
      else o.temp.getLsbD (i - 8) := by
  show BitVec.getLsbD (w := 8 + 1 + 3 + 3 + 1)
    (o.temp ++ BitVec.ofBool o.rsv ++ FanSel.bits o.fan ++ mode ++ BitVec.ofBool o.power) i = _
  simp only [BitVec.getLsbD_append, BitVec.getLsbD_ofBool]
  grind

@[simp] theorem FanSel.ofBits_bits (f : FanSel) : FanSel.ofBits f.bits = f := by cases f <;> rfl
@[simp] theorem FanSel.bits_ofBits (b : BitVec 3) : (FanSel.ofBits b).bits = b := by revert b; decide

@[simp] theorem CmdWord.mode_pack (mode : BitVec 3) (o : CmdOperands) :
    CmdWord.mode (CmdWord.pack mode o) = mode := by
  refine BitVec.eq_of_getLsbD_eq fun i hi => ?_
  rw [CmdWord.mode, BitVec.getLsbD_extractLsb', CmdWord.getLsbD_pack]
  grind

@[simp] theorem CmdWord.operands_pack (mode : BitVec 3) (o : CmdOperands) :
    CmdWord.operands (CmdWord.pack mode o) = o := by
  have hf : (CmdWord.pack mode o).extractLsb' 4 3 = o.fan.bits := by
    refine BitVec.eq_of_getLsbD_eq fun i hi => ?_
    rw [BitVec.getLsbD_extractLsb', CmdWord.getLsbD_pack]
    grind
  have ht : (CmdWord.pack mode o).extractLsb' 8 8 = o.temp := by
    refine BitVec.eq_of_getLsbD_eq fun i hi => ?_
    rw [BitVec.getLsbD_extractLsb', CmdWord.getLsbD_pack]
    grind
  simp only [CmdWord.operands, hf, ht, FanSel.ofBits_bits, CmdWord.getLsbD_pack]
  simp

theorem CmdWord.pack_mode_operands (w : CmdWord) :
    CmdWord.pack (CmdWord.mode w) (CmdWord.operands w) = w := by
  refine BitVec.eq_of_getLsbD_eq fun i hi => ?_
  rw [CmdWord.getLsbD_pack]
  simp only [CmdWord.mode, CmdWord.operands, FanSel.bits_ofBits, BitVec.getLsbD_extractLsb']
  grind

theorem OpWord.getLsbD_pack (kind : BitVec 2) (b8 : Byte) (a b c : Micros) (i : Nat) :
    (OpWord.pack kind b8 a b c).getLsbD i =
      if i < 2 then kind.getLsbD i
      else if i < 8 then false
      else if i < 16 then b8.getLsbD (i - 8)
      else if i < 32 then false
      else if i < 64 then a.getLsbD (i - 32)
      else if i < 96 then b.getLsbD (i - 64)
      else c.getLsbD (i - 96) := by
  show BitVec.getLsbD (w := 32 + 32 + 32 + 16 + 8 + 6 + 2)
    (c ++ b ++ a ++ (0 : BitVec 16) ++ b8 ++ (0 : BitVec 6) ++ kind) i = _
  simp only [BitVec.getLsbD_append, BitVec.ofNat_eq_ofNat, BitVec.getLsbD_zero]
  grind

@[simp] theorem OpWord.kind_pack (kind : BitVec 2) (b8 : Byte) (a b c : Micros) :
    OpWord.kind (OpWord.pack kind b8 a b c) = kind := by
  refine BitVec.eq_of_getLsbD_eq fun i hi => ?_
  rw [OpWord.kind, BitVec.getLsbD_extractLsb', OpWord.getLsbD_pack]
  grind
@[simp] theorem OpWord.b8_pack (kind : BitVec 2) (b8 : Byte) (a b c : Micros) :
    OpWord.b8 (OpWord.pack kind b8 a b c) = b8 := by
  refine BitVec.eq_of_getLsbD_eq fun i hi => ?_
  rw [OpWord.b8, BitVec.getLsbD_extractLsb', OpWord.getLsbD_pack]
  grind
@[simp] theorem OpWord.fieldA_pack (kind : BitVec 2) (b8 : Byte) (a b c : Micros) :
    OpWord.fieldA (OpWord.pack kind b8 a b c) = a := by
  refine BitVec.eq_of_getLsbD_eq fun i hi => ?_
  rw [OpWord.fieldA, BitVec.getLsbD_extractLsb', OpWord.getLsbD_pack]
  grind
@[simp] theorem OpWord.fieldB_pack (kind : BitVec 2) (b8 : Byte) (a b c : Micros) :
    OpWord.fieldB (OpWord.pack kind b8 a b c) = b := by
  refine BitVec.eq_of_getLsbD_eq fun i hi => ?_
  rw [OpWord.fieldB, BitVec.getLsbD_extractLsb', OpWord.getLsbD_pack]
  grind
@[simp] theorem OpWord.fieldC_pack (kind : BitVec 2) (b8 : Byte) (a b c : Micros) :
    OpWord.fieldC (OpWord.pack kind b8 a b c) = c := by
  refine BitVec.eq_of_getLsbD_eq fun i hi => ?_
  rw [OpWord.fieldC, BitVec.getLsbD_extractLsb', OpWord.getLsbD_pack]
  grind
end Sys2Proof
end

