-- ==== Sys2Proof/Laws/Memory.lean ====
section
/-! SUPPORT. FRAME: read after write, the canonical form, and the whole-frame store. -/

namespace Sys2Proof.Machine

/-! ## Read after write -/

@[simp] theorem Memory.read_nil (k : Nat) : Memory.read [] k = none := rfl

theorem Memory.read_write (m : Memory) (k a : Nat) (v : Byte) :
    Memory.read (Memory.write m k v) a = if k = a then some v else Memory.read m a := by
  induction m with
  | nil => simp [Memory.write, Memory.read]
  | cons c m ih =>
    simp only [Memory.write]
    split
    · simp [Memory.read]
    · split
      · simp only [Memory.read]
        split <;> simp_all
      · simp only [Memory.read, ih]
        split <;> simp_all

@[simp] theorem Memory.read_write_same (m : Memory) (k : Nat) (v : Byte) :
    Memory.read (Memory.write m k v) k = some v := by
  simp [Memory.read_write]

theorem Memory.read_write_other (m : Memory) {k a : Nat} (v : Byte) (h : k ≠ a) :
    Memory.read (Memory.write m k v) a = Memory.read m a := by
  simp [Memory.read_write, h]

/-! ## The canonical form -/

theorem Memory.mem_write {m : Memory} {k : Nat} {v : Byte} {c : Host.Cell}
    (h : c ∈ Memory.write m k v) : c = (k, v) ∨ c ∈ m := by
  induction m with
  | nil => simpa [Memory.write] using h
  | cons d m ih =>
    simp only [Memory.write] at h
    split at h
    · simpa using h
    · split at h
      · rcases List.mem_cons.1 h with h | h
        · exact .inl h
        · exact .inr (List.mem_cons_of_mem _ h)
      · rcases List.mem_cons.1 h with h | h
        · exact .inr (h ▸ List.mem_cons_self)
        · exact (ih h).imp_right (List.mem_cons_of_mem _)

theorem Memory.wf_nil : Memory.wf [] := by simp [Memory.wf]

theorem Memory.rising_write {m : Memory} (k : Nat) (v : Byte)
    (h : m.Pairwise (fun c d => c.1 < d.1)) :
    (Memory.write m k v).Pairwise (fun c d => c.1 < d.1) := by
  induction m with
  | nil => simp [Memory.write]
  | cons c m ih =>
    obtain ⟨hc, hm⟩ := List.pairwise_cons.1 h
    simp only [Memory.write]
    split
    · rename_i hk
      refine List.pairwise_cons.2 ⟨fun d hd => ?_, h⟩
      rcases List.mem_cons.1 hd with rfl | hd
      · exact hk
      · exact Nat.lt_trans hk (hc d hd)
    · split
      · rename_i hk
        exact List.pairwise_cons.2 ⟨fun d hd => by simpa [hk] using hc d hd, hm⟩
      · refine List.pairwise_cons.2 ⟨fun d hd => ?_, ih hm⟩
        rcases Memory.mem_write hd with rfl | hd
        · simp only; omega
        · exact hc d hd

/-- A write to one of FRAME's indices keeps the canonical form. -/
theorem Memory.wf_write {m : Memory} {k : Nat} (v : Byte) (hk : k < 18) (h : Memory.wf m) :
    Memory.wf (Memory.write m k v) := by
  refine ⟨Memory.rising_write k v h.1, fun c hc => ?_⟩
  rcases Memory.mem_write hc with rfl | hc
  · exact hk
  · exact h.2 c hc

/-! ## The whole frame -/

theorem Memory.wf_storeBytes (bs : List Byte) {m : Memory} {k : Nat} (hk : k + bs.length ≤ 18)
    (h : Memory.wf m) : Memory.wf (Memory.storeBytes m k bs) := by
  induction bs generalizing m k with
  | nil => exact h
  | cons b bs ih =>
    simp only [List.length_cons] at hk
    exact ih (by omega) (Memory.wf_write b (by omega) h)

/-- Storing a frame keeps the canonical form. -/
theorem Memory.wf_storeFrame (f : Frame) {m : Memory} (h : Memory.wf m) :
    Memory.wf (Memory.storeFrame m f) :=
  Memory.wf_storeBytes _ (by simp) h

theorem Memory.read_storeBytes (bs : List Byte) (m : Memory) (k a : Nat) :
    Memory.read (Memory.storeBytes m k bs) a =
      if k ≤ a ∧ a < k + bs.length then bs[a - k]? else Memory.read m a := by
  induction bs generalizing m k with
  | nil =>
    have : ¬ (k ≤ a ∧ a < k + ([] : List Byte).length) := by simp
    rw [if_neg this, Memory.storeBytes]
  | cons b bs ih =>
    simp only [Memory.storeBytes, ih, Memory.read_write, List.length_cons]
    by_cases h : k = a
    · subst h
      simp
    · by_cases h2 : k + 1 ≤ a ∧ a < k + 1 + bs.length
      · have h3 : k ≤ a ∧ a < k + (bs.length + 1) := by omega
        have h4 : a - k = (a - (k + 1)) + 1 := by omega
        rw [if_pos h2, if_pos h3, h4, List.getElem?_cons_succ]
      · have h3 : ¬ (k ≤ a ∧ a < k + (bs.length + 1)) := by omega
        rw [if_neg h2, if_neg h3, if_neg h]

/-- A stored frame is read back byte by byte. -/
theorem Memory.read_storeFrame (m : Memory) (f : Frame) (k : Fin 18) :
    Memory.read (Memory.storeFrame m f) k.val = some f[k] := by
  rw [Memory.storeFrame, Memory.read_storeBytes]
  simp

/-- A stored frame touches no other index. -/
theorem Memory.read_storeFrame_outside (m : Memory) (f : Frame) {a : Nat} (h : 18 ≤ a) :
    Memory.read (Memory.storeFrame m f) a = Memory.read m a := by
  rw [Memory.storeFrame, Memory.read_storeBytes]
  simp [Nat.not_lt.2 h]

theorem holds_storeFrame (m : Memory) (f : Frame) : Safety.Holds (Memory.storeFrame m f) f :=
  Memory.read_storeFrame m f

/-- Where FRAME holds f, a fetch of an index of FRAME gives f's byte. -/
theorem Memory.fetch_of_holds {m : Memory} {f : Frame} (h : Safety.Holds m f) (k : Fin 18) :
    Memory.fetch m k.val = .ok f[k] := by
  have hk : ¬ 17 < k.val := by have := k.isLt; omega
  simp [Memory.fetch, hk, h k]

end Sys2Proof.Machine
end

