-- ==== Sys2Proof/Laws/PerInstr.lean ====
section
/-! SUPPORT. Per instruction: the word the encoder writes meets its row of spec/opcode_table.json, mask and
match, at the port of the row's format. -/

namespace Sys2Proof.Laws.MatchesTable

/-- A command word meets CMD16's mask 0x000E with the row's match. -/
def CmdMatches (pw : PortWord) (row : CmdWord) : Prop :=
  ∃ w, pw = .cmd w ∧ w &&& 0x000E#16 = row

/-- An op word meets OP128's mask 0x3 with the row's match. -/
def OpMatches (pw : PortWord) (row : OpWord) : Prop :=
  ∃ w, pw = .op w ∧ w &&& 0x3#128 = row

/-- The encoding of an instruction meets its row of the table. -/
def Statement : Instr → Prop
  | .sendRsv0 o => CmdMatches (encode (.sendRsv0 o)) 0x0000
  | .sendAuto o => CmdMatches (encode (.sendAuto o)) 0x0002
  | .sendHeat o => CmdMatches (encode (.sendHeat o)) 0x0004
  | .sendCool o => CmdMatches (encode (.sendCool o)) 0x0006
  | .sendDry o => CmdMatches (encode (.sendDry o)) 0x0008
  | .sendFan o => CmdMatches (encode (.sendFan o)) 0x000A
  | .sendMaint o => CmdMatches (encode (.sendMaint o)) 0x000C
  | .sendRsv7 o => CmdMatches (encode (.sendRsv7 o)) 0x000E
  | .setfreq khz => OpMatches (encode (.setfreq khz)) 0x0
  | .mark us => OpMatches (encode (.mark us)) 0x1
  | .space us => OpMatches (encode (.space us)) 0x2
  | .sendbyte b bm zs os => OpMatches (encode (.sendbyte b bm zs os)) 0x3

/-- The mask keeps the three MODE bits of a packed command word. -/
theorem cmd_mask (mode : BitVec 3) (o : CmdOperands) :
    CmdWord.pack mode o &&& 0x000E#16 = mode.setWidth 16 <<< 1 := by
  refine BitVec.eq_of_getLsbD_eq fun i hi => ?_
  rw [BitVec.getLsbD_and, CmdWord.getLsbD_pack, BitVec.getLsbD_shiftLeft, BitVec.getLsbD_setWidth]
  have hm : (0x000E#16).getLsbD i = (decide (1 ≤ i) && decide (i < 4)) := by
    have : ∀ j : Fin 16, (0x000E#16).getLsbD j.val = (decide (1 ≤ j.val) && decide (j.val < 4)) := by decide
    exact this ⟨i, hi⟩
  rw [hm]
  grind

/-- The mask keeps the two KIND bits of a packed op word. -/
theorem op_mask (kind : BitVec 2) (b8 : Byte) (a b c : Micros) :
    OpWord.pack kind b8 a b c &&& 0x3#128 = kind.setWidth 128 := by
  refine BitVec.eq_of_getLsbD_eq fun i hi => ?_
  rw [BitVec.getLsbD_and, OpWord.getLsbD_pack, BitVec.getLsbD_setWidth]
  have hm : (0x3#128).getLsbD i = decide (i < 2) := by
    have : ∀ j : Fin 128, (0x3#128).getLsbD j.val = decide (j.val < 2) := by decide
    exact this ⟨i, hi⟩
  rw [hm]
  grind

theorem sendRsv0 (o : CmdOperands) : Statement (.sendRsv0 o) := ⟨_, rfl, cmd_mask 0 o⟩
theorem sendAuto (o : CmdOperands) : Statement (.sendAuto o) := ⟨_, rfl, cmd_mask 1 o⟩
theorem sendHeat (o : CmdOperands) : Statement (.sendHeat o) := ⟨_, rfl, cmd_mask 2 o⟩
theorem sendCool (o : CmdOperands) : Statement (.sendCool o) := ⟨_, rfl, cmd_mask 3 o⟩
theorem sendDry (o : CmdOperands) : Statement (.sendDry o) := ⟨_, rfl, cmd_mask 4 o⟩
theorem sendFan (o : CmdOperands) : Statement (.sendFan o) := ⟨_, rfl, cmd_mask 5 o⟩
theorem sendMaint (o : CmdOperands) : Statement (.sendMaint o) := ⟨_, rfl, cmd_mask 6 o⟩
theorem sendRsv7 (o : CmdOperands) : Statement (.sendRsv7 o) := ⟨_, rfl, cmd_mask 7 o⟩
theorem setfreq (khz : Byte) : Statement (.setfreq khz) := ⟨_, rfl, op_mask 0 khz 0 0 0⟩
theorem mark (us : Micros) : Statement (.mark us) := ⟨_, rfl, op_mask 1 0 us 0 0⟩
theorem space (us : Micros) : Statement (.space us) := ⟨_, rfl, op_mask 2 0 us 0 0⟩
theorem sendbyte (b : Byte) (bm zs os : Micros) : Statement (.sendbyte b bm zs os) :=
  ⟨_, rfl, op_mask 3 b bm zs os⟩

end Sys2Proof.Laws.MatchesTable
end

