-- ==== Sys2Proof/Laws/State.lean ====
section
/-! SUPPORT. One lemma per field per update of State, true by rfl. -/

namespace Sys2Proof.Machine

variable (s : State)

/-! ## enter -/

@[simp] theorem State.enter_params (q : SeqState) : (s.enter q).params = s.params := rfl
@[simp] theorem State.enter_var (q : SeqState) : (s.enter q).var = s.var := rfl
@[simp] theorem State.enter_tuple (q : SeqState) : (s.enter q).tuple = s.tuple := rfl
@[simp] theorem State.enter_frame (q : SeqState) : (s.enter q).frame = s.frame := rfl
@[simp] theorem State.enter_state (q : SeqState) : (s.enter q).state = q := rfl
@[simp] theorem State.enter_burst (q : SeqState) : (s.enter q).burst = s.burst := rfl
@[simp] theorem State.enter_idx (q : SeqState) : (s.enter q).idx = s.idx := rfl
@[simp] theorem State.enter_opStream (q : SeqState) : (s.enter q).opStream = s.opStream := rfl
@[simp] theorem State.enter_accepted (q : SeqState) : (s.enter q).accepted = s.accepted := rfl
@[simp] theorem State.enter_carrier (q : SeqState) : (s.enter q).carrier = s.carrier := rfl
@[simp] theorem State.enter_air (q : SeqState) : (s.enter q).air = s.air := rfl
@[simp] theorem State.enter_script (q : SeqState) : (s.enter q).script = s.script := rfl
@[simp] theorem State.enter_tick (q : SeqState) : (s.enter q).tick = s.tick := rfl
@[simp] theorem State.enter_pins (q : SeqState) : (s.enter q).pins = s.pins := rfl

/-! ## setBurst -/

@[simp] theorem State.setBurst_params (b : BitVec 1) : (s.setBurst b).params = s.params := rfl
@[simp] theorem State.setBurst_var (b : BitVec 1) : (s.setBurst b).var = s.var := rfl
@[simp] theorem State.setBurst_tuple (b : BitVec 1) : (s.setBurst b).tuple = s.tuple := rfl
@[simp] theorem State.setBurst_frame (b : BitVec 1) : (s.setBurst b).frame = s.frame := rfl
@[simp] theorem State.setBurst_state (b : BitVec 1) : (s.setBurst b).state = s.state := rfl
@[simp] theorem State.setBurst_burst (b : BitVec 1) : (s.setBurst b).burst = b := rfl
@[simp] theorem State.setBurst_idx (b : BitVec 1) : (s.setBurst b).idx = s.idx := rfl
@[simp] theorem State.setBurst_opStream (b : BitVec 1) : (s.setBurst b).opStream = s.opStream := rfl
@[simp] theorem State.setBurst_accepted (b : BitVec 1) : (s.setBurst b).accepted = s.accepted := rfl
@[simp] theorem State.setBurst_carrier (b : BitVec 1) : (s.setBurst b).carrier = s.carrier := rfl
@[simp] theorem State.setBurst_air (b : BitVec 1) : (s.setBurst b).air = s.air := rfl
@[simp] theorem State.setBurst_script (b : BitVec 1) : (s.setBurst b).script = s.script := rfl
@[simp] theorem State.setBurst_tick (b : BitVec 1) : (s.setBurst b).tick = s.tick := rfl
@[simp] theorem State.setBurst_pins (b : BitVec 1) : (s.setBurst b).pins = s.pins := rfl

/-! ## setIdx -/

@[simp] theorem State.setIdx_params (k : BitVec 5) : (s.setIdx k).params = s.params := rfl
@[simp] theorem State.setIdx_var (k : BitVec 5) : (s.setIdx k).var = s.var := rfl
@[simp] theorem State.setIdx_tuple (k : BitVec 5) : (s.setIdx k).tuple = s.tuple := rfl
@[simp] theorem State.setIdx_frame (k : BitVec 5) : (s.setIdx k).frame = s.frame := rfl
@[simp] theorem State.setIdx_state (k : BitVec 5) : (s.setIdx k).state = s.state := rfl
@[simp] theorem State.setIdx_burst (k : BitVec 5) : (s.setIdx k).burst = s.burst := rfl
@[simp] theorem State.setIdx_idx (k : BitVec 5) : (s.setIdx k).idx = k := rfl
@[simp] theorem State.setIdx_opStream (k : BitVec 5) : (s.setIdx k).opStream = s.opStream := rfl
@[simp] theorem State.setIdx_accepted (k : BitVec 5) : (s.setIdx k).accepted = s.accepted := rfl
@[simp] theorem State.setIdx_carrier (k : BitVec 5) : (s.setIdx k).carrier = s.carrier := rfl
@[simp] theorem State.setIdx_air (k : BitVec 5) : (s.setIdx k).air = s.air := rfl
@[simp] theorem State.setIdx_script (k : BitVec 5) : (s.setIdx k).script = s.script := rfl
@[simp] theorem State.setIdx_tick (k : BitVec 5) : (s.setIdx k).tick = s.tick := rfl
@[simp] theorem State.setIdx_pins (k : BitVec 5) : (s.setIdx k).pins = s.pins := rfl

/-! ## setTuple -/

@[simp] theorem State.setTuple_params (tup : Tuple) : (s.setTuple tup).params = s.params := rfl
@[simp] theorem State.setTuple_var (tup : Tuple) : (s.setTuple tup).var = s.var := rfl
@[simp] theorem State.setTuple_tuple (tup : Tuple) : (s.setTuple tup).tuple = tup := rfl
@[simp] theorem State.setTuple_frame (tup : Tuple) : (s.setTuple tup).frame = s.frame := rfl
@[simp] theorem State.setTuple_state (tup : Tuple) : (s.setTuple tup).state = s.state := rfl
@[simp] theorem State.setTuple_burst (tup : Tuple) : (s.setTuple tup).burst = s.burst := rfl
@[simp] theorem State.setTuple_idx (tup : Tuple) : (s.setTuple tup).idx = s.idx := rfl
@[simp] theorem State.setTuple_opStream (tup : Tuple) : (s.setTuple tup).opStream = s.opStream := rfl
@[simp] theorem State.setTuple_accepted (tup : Tuple) : (s.setTuple tup).accepted = s.accepted := rfl
@[simp] theorem State.setTuple_carrier (tup : Tuple) : (s.setTuple tup).carrier = s.carrier := rfl
@[simp] theorem State.setTuple_air (tup : Tuple) : (s.setTuple tup).air = s.air := rfl
@[simp] theorem State.setTuple_script (tup : Tuple) : (s.setTuple tup).script = s.script := rfl
@[simp] theorem State.setTuple_tick (tup : Tuple) : (s.setTuple tup).tick = s.tick := rfl
@[simp] theorem State.setTuple_pins (tup : Tuple) : (s.setTuple tup).pins = s.pins := rfl

/-! ## setFrame -/

@[simp] theorem State.setFrame_params (f : Frame) : (s.setFrame f).params = s.params := rfl
@[simp] theorem State.setFrame_var (f : Frame) : (s.setFrame f).var = s.var := rfl
@[simp] theorem State.setFrame_tuple (f : Frame) : (s.setFrame f).tuple = s.tuple := rfl
@[simp] theorem State.setFrame_frame (f : Frame) : (s.setFrame f).frame = Memory.storeFrame s.frame f := rfl
@[simp] theorem State.setFrame_state (f : Frame) : (s.setFrame f).state = s.state := rfl
@[simp] theorem State.setFrame_burst (f : Frame) : (s.setFrame f).burst = s.burst := rfl
@[simp] theorem State.setFrame_idx (f : Frame) : (s.setFrame f).idx = s.idx := rfl
@[simp] theorem State.setFrame_opStream (f : Frame) : (s.setFrame f).opStream = s.opStream := rfl
@[simp] theorem State.setFrame_accepted (f : Frame) : (s.setFrame f).accepted = s.accepted := rfl
@[simp] theorem State.setFrame_carrier (f : Frame) : (s.setFrame f).carrier = s.carrier := rfl
@[simp] theorem State.setFrame_air (f : Frame) : (s.setFrame f).air = s.air := rfl
@[simp] theorem State.setFrame_script (f : Frame) : (s.setFrame f).script = s.script := rfl
@[simp] theorem State.setFrame_tick (f : Frame) : (s.setFrame f).tick = s.tick := rfl
@[simp] theorem State.setFrame_pins (f : Frame) : (s.setFrame f).pins = s.pins := rfl

/-! ## resetBlock -/

@[simp] theorem State.resetBlock_params : s.resetBlock.params = s.params := rfl
@[simp] theorem State.resetBlock_var : s.resetBlock.var = s.pins.cfgVariant := rfl
@[simp] theorem State.resetBlock_tuple : s.resetBlock.tuple = s.tuple := rfl
@[simp] theorem State.resetBlock_frame : s.resetBlock.frame = s.frame := rfl
@[simp] theorem State.resetBlock_state : s.resetBlock.state = .idle := rfl
@[simp] theorem State.resetBlock_burst : s.resetBlock.burst = 0 := rfl
@[simp] theorem State.resetBlock_idx : s.resetBlock.idx = 0 := rfl
@[simp] theorem State.resetBlock_opStream : s.resetBlock.opStream = s.opStream := rfl
@[simp] theorem State.resetBlock_accepted : s.resetBlock.accepted = s.accepted := rfl
@[simp] theorem State.resetBlock_carrier : s.resetBlock.carrier = s.carrier := rfl
@[simp] theorem State.resetBlock_air : s.resetBlock.air = s.air := rfl
@[simp] theorem State.resetBlock_script : s.resetBlock.script = s.script := rfl
@[simp] theorem State.resetBlock_tick : s.resetBlock.tick = s.tick := rfl
@[simp] theorem State.resetBlock_pins : s.resetBlock.pins = s.pins := rfl

/-! ## transfer -/

@[simp] theorem State.transfer_params (w : OpWord) : (s.transfer w).params = s.params := rfl
@[simp] theorem State.transfer_var (w : OpWord) : (s.transfer w).var = s.var := rfl
@[simp] theorem State.transfer_tuple (w : OpWord) : (s.transfer w).tuple = s.tuple := rfl
@[simp] theorem State.transfer_frame (w : OpWord) : (s.transfer w).frame = s.frame := rfl
@[simp] theorem State.transfer_state (w : OpWord) : (s.transfer w).state = s.state := rfl
@[simp] theorem State.transfer_burst (w : OpWord) : (s.transfer w).burst = s.burst := rfl
@[simp] theorem State.transfer_idx (w : OpWord) : (s.transfer w).idx = s.idx := rfl
@[simp] theorem State.transfer_opStream (w : OpWord) : (s.transfer w).opStream = s.opStream ++ [w] := rfl
@[simp] theorem State.transfer_accepted (w : OpWord) : (s.transfer w).accepted = some w := rfl
@[simp] theorem State.transfer_carrier (w : OpWord) : (s.transfer w).carrier = s.carrier := rfl
@[simp] theorem State.transfer_air (w : OpWord) : (s.transfer w).air = s.air := rfl
@[simp] theorem State.transfer_script (w : OpWord) : (s.transfer w).script = s.script := rfl
@[simp] theorem State.transfer_tick (w : OpWord) : (s.transfer w).tick = s.tick := rfl
@[simp] theorem State.transfer_pins (w : OpWord) : (s.transfer w).pins = s.pins := rfl

/-! ## clearAccepted -/

@[simp] theorem State.clearAccepted_params : s.clearAccepted.params = s.params := rfl
@[simp] theorem State.clearAccepted_var : s.clearAccepted.var = s.var := rfl
@[simp] theorem State.clearAccepted_tuple : s.clearAccepted.tuple = s.tuple := rfl
@[simp] theorem State.clearAccepted_frame : s.clearAccepted.frame = s.frame := rfl
@[simp] theorem State.clearAccepted_state : s.clearAccepted.state = s.state := rfl
@[simp] theorem State.clearAccepted_burst : s.clearAccepted.burst = s.burst := rfl
@[simp] theorem State.clearAccepted_idx : s.clearAccepted.idx = s.idx := rfl
@[simp] theorem State.clearAccepted_opStream : s.clearAccepted.opStream = s.opStream := rfl
@[simp] theorem State.clearAccepted_accepted : s.clearAccepted.accepted = none := rfl
@[simp] theorem State.clearAccepted_carrier : s.clearAccepted.carrier = s.carrier := rfl
@[simp] theorem State.clearAccepted_air : s.clearAccepted.air = s.air := rfl
@[simp] theorem State.clearAccepted_script : s.clearAccepted.script = s.script := rfl
@[simp] theorem State.clearAccepted_tick : s.clearAccepted.tick = s.tick := rfl
@[simp] theorem State.clearAccepted_pins : s.clearAccepted.pins = s.pins := rfl

/-! ## setCarrier -/

@[simp] theorem State.setCarrier_params (khz : Byte) : (s.setCarrier khz).params = s.params := rfl
@[simp] theorem State.setCarrier_var (khz : Byte) : (s.setCarrier khz).var = s.var := rfl
@[simp] theorem State.setCarrier_tuple (khz : Byte) : (s.setCarrier khz).tuple = s.tuple := rfl
@[simp] theorem State.setCarrier_frame (khz : Byte) : (s.setCarrier khz).frame = s.frame := rfl
@[simp] theorem State.setCarrier_state (khz : Byte) : (s.setCarrier khz).state = s.state := rfl
@[simp] theorem State.setCarrier_burst (khz : Byte) : (s.setCarrier khz).burst = s.burst := rfl
@[simp] theorem State.setCarrier_idx (khz : Byte) : (s.setCarrier khz).idx = s.idx := rfl
@[simp] theorem State.setCarrier_opStream (khz : Byte) : (s.setCarrier khz).opStream = s.opStream := rfl
@[simp] theorem State.setCarrier_accepted (khz : Byte) : (s.setCarrier khz).accepted = s.accepted := rfl
@[simp] theorem State.setCarrier_carrier (khz : Byte) : (s.setCarrier khz).carrier = some khz := rfl
@[simp] theorem State.setCarrier_air (khz : Byte) : (s.setCarrier khz).air = s.air := rfl
@[simp] theorem State.setCarrier_script (khz : Byte) : (s.setCarrier khz).script = s.script := rfl
@[simp] theorem State.setCarrier_tick (khz : Byte) : (s.setCarrier khz).tick = s.tick := rfl
@[simp] theorem State.setCarrier_pins (khz : Byte) : (s.setCarrier khz).pins = s.pins := rfl

/-! ## emit -/

@[simp] theorem State.emit_params (ps : List Pulse) : (s.emit ps).params = s.params := rfl
@[simp] theorem State.emit_var (ps : List Pulse) : (s.emit ps).var = s.var := rfl
@[simp] theorem State.emit_tuple (ps : List Pulse) : (s.emit ps).tuple = s.tuple := rfl
@[simp] theorem State.emit_frame (ps : List Pulse) : (s.emit ps).frame = s.frame := rfl
@[simp] theorem State.emit_state (ps : List Pulse) : (s.emit ps).state = s.state := rfl
@[simp] theorem State.emit_burst (ps : List Pulse) : (s.emit ps).burst = s.burst := rfl
@[simp] theorem State.emit_idx (ps : List Pulse) : (s.emit ps).idx = s.idx := rfl
@[simp] theorem State.emit_opStream (ps : List Pulse) : (s.emit ps).opStream = s.opStream := rfl
@[simp] theorem State.emit_accepted (ps : List Pulse) : (s.emit ps).accepted = s.accepted := rfl
@[simp] theorem State.emit_carrier (ps : List Pulse) : (s.emit ps).carrier = s.carrier := rfl
@[simp] theorem State.emit_air (ps : List Pulse) : (s.emit ps).air = s.air ++ ps := rfl
@[simp] theorem State.emit_script (ps : List Pulse) : (s.emit ps).script = s.script := rfl
@[simp] theorem State.emit_tick (ps : List Pulse) : (s.emit ps).tick = s.tick := rfl
@[simp] theorem State.emit_pins (ps : List Pulse) : (s.emit ps).pins = s.pins := rfl

/-! ## endStep -/

@[simp] theorem State.endStep_params : s.endStep.params = s.params := rfl
@[simp] theorem State.endStep_var : s.endStep.var = s.var := rfl
@[simp] theorem State.endStep_tuple : s.endStep.tuple = s.tuple := rfl
@[simp] theorem State.endStep_frame : s.endStep.frame = s.frame := rfl
@[simp] theorem State.endStep_state : s.endStep.state = s.state := rfl
@[simp] theorem State.endStep_burst : s.endStep.burst = s.burst := rfl
@[simp] theorem State.endStep_idx : s.endStep.idx = s.idx := rfl
@[simp] theorem State.endStep_opStream : s.endStep.opStream = s.opStream := rfl
@[simp] theorem State.endStep_accepted : s.endStep.accepted = s.accepted := rfl
@[simp] theorem State.endStep_carrier : s.endStep.carrier = s.carrier := rfl
@[simp] theorem State.endStep_air : s.endStep.air = s.air := rfl
@[simp] theorem State.endStep_script : s.endStep.script = s.script.tail := rfl
@[simp] theorem State.endStep_tick : s.endStep.tick = s.tick + 1 := rfl

/-! ## accept -/

@[simp] theorem State.accept_params (tup : Tuple) : (s.accept tup).params = s.params := rfl
@[simp] theorem State.accept_var (tup : Tuple) : (s.accept tup).var = s.var := rfl
@[simp] theorem State.accept_tuple (tup : Tuple) : (s.accept tup).tuple = tup := rfl
@[simp] theorem State.accept_frame (tup : Tuple) : (s.accept tup).frame = Memory.storeFrame s.frame (build s.params tup) := rfl
@[simp] theorem State.accept_state (tup : Tuple) : (s.accept tup).state = .sFreq := rfl
@[simp] theorem State.accept_burst (tup : Tuple) : (s.accept tup).burst = 0 := rfl
@[simp] theorem State.accept_idx (tup : Tuple) : (s.accept tup).idx = 0 := rfl
@[simp] theorem State.accept_opStream (tup : Tuple) : (s.accept tup).opStream = s.opStream := rfl
@[simp] theorem State.accept_accepted (tup : Tuple) : (s.accept tup).accepted = s.accepted := rfl
@[simp] theorem State.accept_carrier (tup : Tuple) : (s.accept tup).carrier = s.carrier := rfl
@[simp] theorem State.accept_air (tup : Tuple) : (s.accept tup).air = s.air := rfl
@[simp] theorem State.accept_script (tup : Tuple) : (s.accept tup).script = s.script := rfl
@[simp] theorem State.accept_tick (tup : Tuple) : (s.accept tup).tick = s.tick := rfl
@[simp] theorem State.accept_pins (tup : Tuple) : (s.accept tup).pins = s.pins := rfl

end Sys2Proof.Machine
end

