-- ==== Sys2Proof/Laws/Step.lean ====
section
/-! SUPPORT. What each shared operation can do, said once: a command at the port, the service's turn, the
block's turn, the whole step. -/

namespace Sys2Proof.Machine

/-! ## Outcomes -/

@[simp] theorem andThen_next (s : State) (k : State → Result) : andThen (.next s) k = k s := rfl
@[simp] theorem andThen_fault (e : Fault) (k : State → Result) : andThen (.fault e) k = .fault e := rfl
@[simp] theorem andThen_refused (e : Refusal) (k : State → Result) :
    andThen (.refused e) k = .refused e := rfl

theorem andThen_eq_next {r : Result} {k : State → Result} {t : State} (h : andThen r k = .next t) :
    ∃ u, r = .next u ∧ k u = .next t := by
  cases r with
  | next u => exact ⟨u, rfl, h⟩
  | fault e => cases h
  | refused e => cases h

/-! ## Commands -/

theorem State.cmdReady_iff (s : State) : s.cmdReady = true ↔ s.state = .idle ∧ s.pins.rst = false := by
  simp [State.cmdReady]

theorem sendCommand_ready (o : CmdOperands) (r : ModeRow) {s : State} (h : s.cmdReady = true) :
    sendCommand o r s = .next (s.accept (rowTuple s.params o r)) := by
  simp [sendCommand, h]

theorem sendCommand_waits (o : CmdOperands) (r : ModeRow) {s : State} (h : s.cmdReady = false) :
    sendCommand o r s = .next s := by
  simp [sendCommand, h]

/-- Every command word is a command: it is accepted with some tuple, or it waits. -/
theorem exec_decodeCmd_cases (w : CmdWord) (s : State) :
    (s.cmdReady = true ∧ ∃ tup, exec (decode (.cmd w)) s = .next (s.accept tup)) ∨
      (s.cmdReady = false ∧ exec (decode (.cmd w)) s = .next s) := by
  cases h : s.cmdReady with
  | false =>
    refine .inr ⟨rfl, ?_⟩
    simp only [decode, decodeCmd]
    split <;> exact sendCommand_waits _ _ h
  | true =>
    refine .inl ⟨rfl, ?_⟩
    simp only [decode, decodeCmd]
    split <;> exact ⟨_, sendCommand_ready _ _ h⟩

/-! ## The service -/

/-- An op word changes the service's carrier or its intervals, and nothing else. -/
theorem exec_decodeOp_cases (w : OpWord) (s : State) :
    (∃ khz, exec (decode (.op w)) s = .next (s.setCarrier khz)) ∨
      ∃ ps, exec (decode (.op w)) s = .next (s.emit ps) := by
  simp only [decode, decodeOp]
  split
  · exact .inl ⟨_, rfl⟩
  all_goals exact .inr ⟨_, rfl⟩

/-- The service's turn always ends, with nothing accepted left and the block as it was. -/
theorem serviceTurn_next (s : State) :
    ∃ c a, serviceTurn s = .next { s with accepted := none, carrier := c, air := a } := by
  cases h : s.accepted with
  | none =>
    refine ⟨s.carrier, s.air, ?_⟩
    simp only [serviceTurn, h]
    cases s
    simp_all
  | some w =>
    simp only [serviceTurn, h]
    rcases exec_decodeOp_cases w s.clearAccepted with ⟨khz, e⟩ | ⟨ps, e⟩
    · exact ⟨some khz, s.air, e⟩
    · exact ⟨s.carrier, s.air ++ ps, e⟩

/-! ## The block -/

/-- What the block's turn can do when it answers a next state. -/
theorem blockTurn_cases {s t : State} (h : blockTurn s = .next t) :
    (s.pins.rst = true ∧ t = s.resetBlock) ∨
    (s.pins.rst = false ∧ s.state = .idle ∧ s.pins.cmdValid = true ∧
      exec (decode (.cmd s.pins.cmdWord)) s = .next t) ∨
    (s.pins.rst = false ∧ s.state = .idle ∧ s.pins.cmdValid = false ∧ t = s) ∨
    (s.pins.rst = false ∧ s.pins.opReady = false ∧ (∃ w, s.presentedWord = .ok (some w)) ∧ t = s) ∨
    (s.pins.rst = false ∧ s.pins.opReady = true ∧
      ∃ w, s.presentedWord = .ok (some w) ∧ t = (s.transfer w).advance) := by
  unfold blockTurn at h
  cases hr : s.pins.rst with
  | true =>
    simp only [hr, if_true] at h
    cases h
    exact .inl ⟨rfl, rfl⟩
  | false =>
    simp only [hr, Bool.false_eq_true, if_false] at h
    refine .inr ?_
    split at h
    · cases h
    · rename_i hp
      have hidle : s.state = .idle := by
        unfold State.presentedWord at hp
        split at hp <;> try cases hp
        · assumption
        · split at hp <;> cases hp
      unfold idleTurn at h
      cases hv : s.pins.cmdValid with
      | true => exact .inl ⟨rfl, hidle, rfl, by simpa [hv] using h⟩
      | false =>
        simp only [hv, Bool.false_eq_true, if_false] at h
        cases h
        exact .inr (.inl ⟨rfl, hidle, rfl, rfl⟩)
    · rename_i w hp
      unfold opTurn at h
      cases ho : s.pins.opReady with
      | true =>
        simp only [ho, if_true] at h
        cases h
        exact .inr (.inr (.inr ⟨rfl, rfl, w, hp, rfl⟩))
      | false =>
        simp only [ho, Bool.false_eq_true, if_false] at h
        cases h
        exact .inr (.inr (.inl ⟨rfl, rfl, ⟨w, hp⟩, rfl⟩))

/-- The word presented in a state that presents one: STATE is not IDLE. -/
theorem presentedWord_idle {s : State} (h : s.state = .idle) : s.presentedWord = .ok none := by
  simp [State.presentedWord, h]

/-! ## The step -/

/-- A step is the block's turn on the state the service's turn leaves, and the end of its inputs. -/
theorem step_eq (s : State) :
    ∃ c a, step s = andThen (blockTurn { s with accepted := none, carrier := c, air := a }) finishStep := by
  obtain ⟨c, a, h⟩ := serviceTurn_next s
  exact ⟨c, a, by simp [step, h]⟩

/-- What a step that answers a next state did. -/
theorem step_cases {s t : State} (h : step s = .next t) :
    ∃ c a u, blockTurn { s with accepted := none, carrier := c, air := a } = .next u ∧ t = u.endStep := by
  obtain ⟨c, a, e⟩ := step_eq s
  rw [e] at h
  obtain ⟨u, hu, ht⟩ := andThen_eq_next h
  exact ⟨c, a, u, hu, by cases ht; rfl⟩

/-- What a handshake leaves alone, whatever the state. -/
theorem advance_frame (s : State) :
    s.advance.params = s.params ∧ s.advance.var = s.var ∧ s.advance.tuple = s.tuple ∧
    s.advance.frame = s.frame ∧ s.advance.opStream = s.opStream ∧ s.advance.accepted = s.accepted ∧
    s.advance.carrier = s.carrier ∧ s.advance.air = s.air ∧ s.advance.script = s.script ∧
    s.advance.tick = s.tick := by
  unfold State.advance
  split
  all_goals first
    | exact ⟨rfl, rfl, rfl, rfl, rfl, rfl, rfl, rfl, rfl, rfl⟩
    | (unfold State.advanceData
       split
       · exact ⟨rfl, rfl, rfl, rfl, rfl, rfl, rfl, rfl, rfl, rfl⟩
       · split <;> exact ⟨rfl, rfl, rfl, rfl, rfl, rfl, rfl, rfl, rfl, rfl⟩)

/-! ## Runs -/

theorem core_run_succ (M : Host.Core) (n : Nat) {s t : M.State} (h : M.step s = .next t) :
    M.run (n + 1) s = M.run n t := by
  simp only [Host.Core.run, h]

/-- A run of this machine, one step taken. -/
theorem run_succ (n : Nat) {s t : State} (h : step s = .next t) :
    Host.Core.run Sys2Proof.core (n + 1) s = Host.Core.run Sys2Proof.core n t :=
  core_run_succ Sys2Proof.core n h

end Sys2Proof.Machine
end

