-- ==== Sys2Proof/Tests/Slice0.lean ====
section
/-! SUPPORT. Tests on words, frames and single steps whose expected results come from
spec/95_test_vectors.md, the refusals of WellFormed, and a witness for the hypotheses of every statement
that has some. -/

namespace Sys2Proof.Tests

open Sys2Proof.Machine Sys2Proof.Safety

/-! ## Helpers -/

/-- TP-A (95_test_vectors.md section 1). -/
def tpA : Params :=
  { codePowerOn := 0x20, codePowerOff := 0x00, codeModeAuto := 0x20, codeModeHeat := 0x08,
    codeModeCool := 0x18, codeModeDry := 0x10, codeFanAuto := 0, codeFan1 := 1, codeFan2 := 2,
    codeFan3 := 3, codeFan4 := 4,
    template := #v[0x23, 0xCB, 0x26, 0x01, 0x00, 0x20, 0x48, 0x00, 0xC0, 0x7A, 0x61, 0x00, 0x00, 0x00,
      0x10, 0x40, 0x00, 0x00],
    hdrMarkUs := 3400, hdrSpaceUs := 1750, bitMarkUs := 450, zeroSpaceUs := 420, oneSpaceUs := 1300,
    msgSpaceUs := 17500, tempRange := .open16to32, bitOrder := .lsbFirst }

/-- A set with one byte everywhere but TEMPLATE[15]: TP-Z with 0x00, TP-B with 0xFF. -/
def tpAll (b : Byte) : Params :=
  { tpA with
    codePowerOn := b, codePowerOff := b, codeModeAuto := b, codeModeHeat := b, codeModeCool := b,
    codeModeDry := b, codeFanAuto := b, codeFan1 := b, codeFan2 := b, codeFan3 := b, codeFan4 := b,
    template := #v[b, b, b, b, b, b, b, b, b, b, b, b, b, b, b, 0x40, b, b] }

/-- The other temperature reading. -/
def halfOpen (p : Params) : Params := { p with tempRange := .halfOpen17to31 }

/-- Inputs of one step. -/
def pin (rst valid : Bool) (w : CmdWord) (ready : Bool) : Pins :=
  { rst := rst, cfgVariant := .supporting, cmdValid := valid, cmdWord := w, opReady := ready }

/-- An idle block with nothing offered. -/
def idle : State :=
  { params := tpA, var := .plain, tuple := ⟨0, 0, 0, 0⟩, frame := [], state := .idle, burst := 1, idx := 17,
    opStream := [], accepted := none, carrier := none, air := [], script := [quietPins], tick := 0 }

/-- An idle block of the supporting variant. -/
def idleSup : State := { idle with var := .supporting }

/-- The inputs of s replaced. -/
def under (s : State) (ps : List Pins) : State := { s with script := ps }

/-- The tuple and frame of V1 (95_test_vectors.md section 2). -/
def v1Tuple : Tuple := ⟨0x20, 0x08, 0x00, 23⟩
def v1Frame : Frame :=
  #v[0x23, 0xCB, 0x26, 0x01, 0x00, 0x20, 0x08, 0x07, 0xC0, 0x00, 0x61, 0x00, 0x00, 0x00, 0x10, 0x40, 0x00,
    0xB5]

/-- V1's command in transmission at (q, b, k), with op_ready as given. -/
def sending (q : SeqState) (b : BitVec 1) (k : BitVec 5) (ready : Bool) : State :=
  { idle with
    tuple := v1Tuple, frame := Memory.storeFrame [] v1Frame, state := q, burst := b, idx := k,
    script := [pin false false 0 ready] }

/-- The control position. -/
def at_ (q : SeqState) (b : BitVec 1) (k : BitVec 5) (t : State) : Bool :=
  decide (t.state = q) && decide (t.burst = b) && decide (t.idx = k)

/-- The outcome is a next state that p accepts. -/
def nextIs (r : Result) (p : State → Bool) : Bool :=
  match r with
  | .next t => p t
  | .fault _ => false
  | .refused _ => false

theorem exists_of_nextIs {r : Result} {p : State → Bool} (h : nextIs r p = true) :
    ∃ t, r = .next t ∧ p t = true := by
  cases r with
  | next t => exact ⟨t, rfl, h⟩
  | fault e => cases h
  | refused e => cases h

/-! ## WellFormed refuses what 30_encoding.md R76 asks a host not to write -/

theorem test_rsv_set_is_ill_formed :
    Instr.wellFormed (.sendRsv0 ⟨true, .auto, true, 23⟩) = false ∧
    Instr.wellFormed (.sendAuto ⟨true, .auto, true, 23⟩) = false ∧
    Instr.wellFormed (.sendHeat ⟨true, .auto, true, 23⟩) = false ∧
    Instr.wellFormed (.sendCool ⟨true, .auto, true, 23⟩) = false ∧
    Instr.wellFormed (.sendDry ⟨true, .auto, true, 23⟩) = false ∧
    Instr.wellFormed (.sendFan ⟨true, .auto, true, 23⟩) = false ∧
    Instr.wellFormed (.sendMaint ⟨true, .auto, true, 23⟩) = false ∧
    Instr.wellFormed (.sendRsv7 ⟨true, .auto, true, 23⟩) = false := by decide

theorem test_written_forms_are_well_formed :
    Instr.wellFormed (.sendHeat ⟨true, .rsv5, false, 255⟩) = true ∧
    Instr.wellFormed (.setfreq 38) = true ∧ Instr.wellFormed (.mark 0) = true ∧
    Instr.wellFormed (.space 0) = true ∧ Instr.wellFormed (.sendbyte 0 0 0 0) = true := by decide

/-! ## Decoding: one word per constructor, written out from the layouts of 30_encoding.md R71 and R80;
the fields of 95_test_vectors.md sections 3.1 and 3.4 -/

/-- T13: TTTTTTTT R FFF 000 P. -/
theorem test_decode_sendRsv0 :
    decode (.cmd 0b00010110_0_101_000_1#16) = .sendRsv0 ⟨true, .rsv5, false, 22⟩ := by decide
/-- T1. -/
theorem test_decode_sendAuto :
    decode (.cmd 0b00011001_0_010_001_1#16) = .sendAuto ⟨true, .level2, false, 25⟩ := by decide
/-- T2, and T24 with RSV = 1. -/
theorem test_decode_sendHeat :
    decode (.cmd 0b00010111_0_000_010_1#16) = .sendHeat ⟨true, .auto, false, 23⟩ ∧
    decode (.cmd 0b00010111_1_000_010_1#16) = .sendHeat ⟨true, .auto, true, 23⟩ := by decide
/-- T3. -/
theorem test_decode_sendCool :
    decode (.cmd 0b00010100_0_011_011_0#16) = .sendCool ⟨false, .level3, false, 20⟩ := by decide
/-- T4. -/
theorem test_decode_sendDry :
    decode (.cmd 0b00010001_0_100_100_1#16) = .sendDry ⟨true, .level4, false, 17⟩ := by decide
/-- T5. -/
theorem test_decode_sendFan :
    decode (.cmd 0b11001000_0_001_101_1#16) = .sendFan ⟨true, .level1, false, 200⟩ := by decide
/-- T7. -/
theorem test_decode_sendMaint :
    decode (.cmd 0b00011001_0_011_110_1#16) = .sendMaint ⟨true, .level3, false, 25⟩ := by decide
/-- T12. -/
theorem test_decode_sendRsv7 :
    decode (.cmd 0b00010000_0_000_111_1#16) = .sendRsv7 ⟨true, .auto, false, 16⟩ := by decide
theorem test_decode_setfreq : decode (.op 0x00000000_00000000_00000000_00002800#128) = .setfreq 40 := by decide
theorem test_decode_mark : decode (.op 0x00000000_00000000_00000D48_00000001#128) = .mark 3400 := by decide
theorem test_decode_space : decode (.op 0x00000000_00000000_0000445C_00000002#128) = .space 17500 := by decide
theorem test_decode_sendbyte :
    decode (.op 0x00000514_000001A4_000001C2_0000FF03#128) = .sendbyte 0xFF 450 420 1300 := by decide

/-- The op words of X1's byte and of MARK 3400 with every bit their kinds do not use set: R84. -/
theorem test_decode_ignores_unused_bits :
    decode (.op 0x00000514_000001A4_000001C2_FFFF07FF#128) = .sendbyte 0x07 450 420 1300 ∧
    decode (.op 0xFFFFFFFF_FFFFFFFF_00000D48_FFFFFFFD#128) = .mark 3400 ∧
    clearUnused 0xFFFFFFFF_FFFFFFFF_00000D48_FFFFFFFD#128 = 0x00000000_00000000_00000D48_00000001#128 ∧
    clearUnused 0xFFFFFFFF_FFFFFFFF_FFFFFFFF_FFFF28FC#128 = 0x2800#128 := by decide

theorem test_encode_words :
    encode (.sendMaint ⟨false, .level3, false, 25⟩) = .cmd 0x193C ∧
    encode (.sendHeat ⟨true, .rsv7, false, 32⟩) = .cmd 0x2075 ∧
    encode (.space 1750) = .op 0x00000000_00000000_000006D6_00000002#128 ∧
    encode (.sendbyte 0x00 450 420 1300) = .op 0x00000514_000001A4_000001C2_00000003#128 := by decide

/-! ## Translator and frame builder (95_test_vectors.md sections 3.1 and 3.2) -/

theorem test_frame_v1 : normalizeWord tpA 0x1705 .plain = v1Tuple ∧ build tpA v1Tuple = v1Frame := by decide

/-- Byte 17 of the TP-A frames of T1, T3, T4, T5, T7, T8, T13, T21 (both readings). -/
theorem test_checksums_tpA :
    ([(0x1923, Variant.plain, tpA), (0x1436, .plain, tpA), (0x1149, .plain, tpA), (0xC81B, .plain, tpA),
      (0x193D, .supporting, tpA), (0x193D, .plain, tpA), (0x1651, .plain, tpA), (0x1F05, .plain, tpA),
      (0x1F05, .plain, halfOpen tpA)].map fun x => (build x.2.2 (normalizeWord x.2.2 x.1 x.2.1))[17]) =
    [0xD1, 0xA5, 0xBB, 0xCE, 0x8E, 0xBA, 0xB4, 0xBD, 0xB5] := by decide

/-- B3 and B6. -/
theorem test_checksum_corners :
    (build (tpAll 0x00) (normalizeWord (tpAll 0x00) 0x190D .supporting)) =
      #v[0, 0, 0, 0, 0, 0, 0, 0, 0, 0, 0, 0, 0, 0, 0, 0x20, 0, 0x20] ∧
    (build (tpAll 0xFF) (normalizeWord (tpAll 0xFF) 0x190D .supporting)) =
      #v[0xFF, 0xFF, 0xFF, 0xFF, 0xFF, 0xFF, 0xFF, 0x00, 0xFF, 0xFF, 0xFF, 0xFF, 0xFF, 0xFF, 0xFF, 0x20, 0xFF,
        0x11] := by decide

/-- The machine's own translation of T13, T5, T7, T8 and T21: F and T after exec. -/
theorem test_exec_rows :
    nextIs (exec (decode (.cmd 0x1651)) idle) (fun t => decide (t.tuple = ⟨0x20, 0x08, 0, 22⟩)) = true ∧
    nextIs (exec (decode (.cmd 0xC81B)) idle) (fun t => decide (t.tuple = ⟨0x20, 0x18, 1, 31⟩)) = true ∧
    nextIs (exec (decode (.cmd 0x193D)) idleSup) (fun t => decide (t.tuple = ⟨0x20, 0x08, 0, 10⟩)) = true ∧
    nextIs (exec (decode (.cmd 0x193D)) idle) (fun t => decide (t.tuple = ⟨0x20, 0x08, 3, 25⟩)) = true ∧
    nextIs (exec (decode (.cmd 0x1F05)) { idle with params := halfOpen tpA })
      (fun t => decide (t.tuple = ⟨0x20, 0x08, 0, 23⟩)) = true := by decide
theorem test_exec_more_rows :
    nextIs (exec (decode (.cmd 0x1923)) idle) (fun t => decide (t.tuple = ⟨0x20, 0x20, 2, 25⟩)) = true ∧
    nextIs (exec (decode (.cmd 0x1436)) idle) (fun t => decide (t.tuple = ⟨0x00, 0x18, 3, 20⟩)) = true ∧
    nextIs (exec (decode (.cmd 0x1149)) idle) (fun t => decide (t.tuple = ⟨0x20, 0x10, 4, 17⟩)) = true ∧
    nextIs (exec (decode (.cmd 0x100F)) idle) (fun t => decide (t.tuple = ⟨0x20, 0x08, 0, 23⟩)) = true ∧
    nextIs (exec (decode (.cmd 0x1005)) idle) (fun t => decide (t.tuple.t = 23)) = true ∧
    nextIs (exec (decode (.cmd 0x1105)) idle) (fun t => decide (t.tuple.t = 17)) = true := by decide

/-! ## Sequencer transitions Q1 to Q12 (95_test_vectors.md section 3.3) -/

theorem test_q1_q2 :
    nextIs (step idle) (at_ .idle 1 17) = true ∧
    nextIs (step (under idle [offerPins 0x1705])) (fun t => at_ .sFreq 0 0 t && decide (t.opStream = [])) = true := by
  decide
theorem test_q3_q4 :
    nextIs (step (sending .sFreq 0 0 false)) (fun t => at_ .sFreq 0 0 t && decide (t.opStream = [])) = true ∧
    nextIs (step (sending .sFreq 0 0 true)) (fun t => at_ .sHmark 0 0 t && decide (t.opStream = [0x2800#128])) = true := by
  decide
theorem test_q5_q6 :
    nextIs (step (sending .sHspace 1 17 true)) (at_ .sData 1 0) = true ∧
    nextIs (step (sending .sData 0 5 true)) (fun t => at_ .sData 0 6 t &&
      decide (t.opStream = [0x00000514_000001A4_000001C2_00002003#128])) = true := by decide
theorem test_q7_q8 :
    nextIs (step (sending .sData 0 17 true)) (fun t => at_ .sGmark 0 17 t &&
      decide (t.opStream = [0x00000514_000001A4_000001C2_0000B503#128])) = true ∧
    nextIs (step (sending .sData 1 17 true)) (at_ .sEmark 1 17) = true := by decide
theorem test_q9_q10 :
    nextIs (step (sending .sGspace 0 17 true)) (fun t => at_ .sHmark 1 17 t &&
      decide (t.opStream = [0x00000000_00000000_0000445C_00000002#128])) = true ∧
    nextIs (step (sending .sEspace 1 17 true)) (fun t => at_ .idle 1 17 t && !t.busy) = true := by decide
theorem test_q11_q12 :
    nextIs (step (under (sending .sData 0 9 true) [pin true false 0 true]))
      (fun t => at_ .idle 0 0 t && decide (t.opStream = []) && decide (t.var = .supporting)) = true ∧
    nextIs (step (under (sending .sData 0 9 true) [pin false true 0x1651 false]))
      (fun t => at_ .sData 0 9 t && decide (t.tuple = v1Tuple)) = true := by decide

/-! ## The service (95_test_vectors.md section 3.5) -/

/-- X1 and X2: the spaces of 0x07. -/
theorem test_sendbyte_bit_order :
    nextIs (exec (.sendbyte 0x07 450 420 1300) idle) (fun t => decide (t.air =
      [.mark 450, .space 1300, .mark 450, .space 1300, .mark 450, .space 1300, .mark 450, .space 420,
       .mark 450, .space 420, .mark 450, .space 420, .mark 450, .space 420, .mark 450, .space 420])) = true ∧
    nextIs (exec (.sendbyte 0x07 450 420 1300) { idle with params := { tpA with bitOrder := .msbFirst } })
      (fun t => decide (t.air =
      [.mark 450, .space 420, .mark 450, .space 420, .mark 450, .space 420, .mark 450, .space 420,
       .mark 450, .space 420, .mark 450, .space 1300, .mark 450, .space 1300, .mark 450, .space 1300])) = true := by
  decide

theorem test_setfreq_mark_space :
    nextIs (exec (.setfreq 40) idle) (fun t => decide (t.carrier = some 40) && decide (t.air = [])) = true ∧
    nextIs (exec (.mark 3400) idle) (fun t => decide (t.air = [.mark 3400])) = true ∧
    nextIs (exec (.space 0) idle) (fun t => decide (t.air = [.space 0])) = true := by decide

/-- A1. -/
theorem test_air_time_a1 : airTime (streamPulses .lsbFirst (commandStream tpA v1Frame)) = 330300 := by
  decide +kernel

/-! ## Model-only faults (60_exceptions.md R211) -/

theorem test_faults :
    step (sending (.unused 0) 0 0 true) = .fault (.unusedState 0) ∧
    step (sending .sData 0 18 true) = .fault (.idxOutOfRange 18) ∧
    step { sending .sData 0 17 true with frame := [] } = .fault (.frameUnwritten 17) := by
  refine ⟨rfl, rfl, rfl⟩

/-! ## Witnesses: for every statement with hypotheses, states and operands that meet them -/

theorem v1_frame_built : FrameBuilt tpA v1Tuple (Memory.storeFrame [] v1Frame) := by
  refine ⟨v1Frame, ?_, ?_⟩
  · unfold Holds; decide
  · unfold IsFrameOf; decide

/-- ReachableInv of a transmission of V1, at any position it allows. -/
theorem sending_inv (q : SeqState) (b : BitVec 1) (k : BitVec 5) (r : Bool)
    (h : (∀ n, q ≠ .unused n) ∧ k.toNat ≤ 17 ∧ (q = .sFreq ∨ q = .sGmark → b = 0) ∧
      (q = .sEmark ∨ q = .sEspace → b = 1) ∧
      (q = .sGmark ∨ q = .sGspace ∨ q = .sEmark ∨ q = .sEspace → k = 17)) :
    ReachableInv (sending q b k r) :=
  ⟨h.1, h.2.1, h.2.2.1, h.2.2.2.1, h.2.2.2.2, fun _ => v1_frame_built⟩

theorem idle_inv : ReachableInv idle := by
  unfold ReachableInv
  refine ⟨by decide, by decide, by decide, by decide, by decide, fun h => absurd rfl h⟩

/-- An idle block is ready, on either variant and under either reading. -/
theorem witness_ready :
    idle.cmdReady = true ∧ idle.var = .plain ∧ idleSup.cmdReady = true ∧ idleSup.var = .supporting ∧
    ({ idle with params := halfOpen tpA } : State).cmdReady = true ∧
    ({ idleSup with params := halfOpen tpA } : State).cmdReady = true ∧
    idle.params.tempRange = .open16to32 ∧
    ({ idle with params := halfOpen tpA } : State).params.tempRange = .halfOpen17to31 := by decide

theorem witness_UnusedOpBitsAreZeroAndIgnored :
    (∃ t, step idle = .next t ∧ decide (t.opStream = idle.opStream) = true) ∧
    (∃ t, step (sending .sFreq 0 0 true) = .next t ∧ decide (t.opStream = [OpWord.setfreq 40]) = true) ∧
    OpWord.kind (OpWord.setfreq 40) = 0 ∧ OpWord.kind (OpWord.mark 1) = 1 ∧ OpWord.kind (OpWord.space 1) = 2 :=
  ⟨exists_of_nextIs (by decide), exists_of_nextIs (by decide), by decide⟩

/-- Every MODE value, for ModeSelectsTheRow and the RowRuns of the eight rows. -/
theorem witness_ModeSelectsTheRow :
    (0x1651#16).extractLsb' 1 3 = 0#3 ∧ (0x1923#16).extractLsb' 1 3 = 1#3 ∧
    (0x1705#16).extractLsb' 1 3 = 2#3 ∧ (0x1436#16).extractLsb' 1 3 = 3#3 ∧
    (0x1149#16).extractLsb' 1 3 = 4#3 ∧ (0xC81B#16).extractLsb' 1 3 = 5#3 ∧
    (0x193D#16).extractLsb' 1 3 = 6#3 ∧ (0x100F#16).extractLsb' 1 3 = 7#3 := by decide

theorem witness_BytesDecodeByLength :
    (∀ n ∈ [0, 1, 3, 15, 17], n ≠ 2 ∧ n ≠ 16) ∧ ([0x05] : List Byte).length = 1 ∧
    decodeBytes [0x05, 0x17] = .ok (.sendHeat ⟨true, .auto, false, 23⟩) ∧
    decodeBytes [0x05] = .error (.badLength 1) := by decide

theorem witness_OfferedCommandRuns :
    (under idle [offerPins 0x1705]).state = .idle ∧ (under idle [offerPins 0x1705]).pins.rst = false ∧
    (under idle [offerPins 0x1705]).pins.cmdValid = true ∧ (under idle [offerPins 0x1705]).accepted = none ∧
    decode (.cmd (under idle [offerPins 0x1705]).pins.cmdWord) = .sendHeat ⟨true, .auto, false, 23⟩ := by decide

theorem witness_AcceptedOpRuns :
    ({ idle with accepted := some (OpWord.mark 450) } : State).accepted = some (OpWord.mark 450) ∧
    decode (.op (OpWord.mark 450)) = .mark 450 := by decide

/-- A command word and op words of whole and of shortened width, and one too wide. -/
theorem witness_PlacedWordRunsFirst :
    decodeTableWord 16 0x1705 = some (.sendHeat ⟨true, .auto, false, 23⟩) ∧
    decodeTableWord 8 0x04 = some (.sendHeat ⟨false, .auto, false, 0⟩) ∧
    decodeTableWord 8 0x03 = some (.sendbyte 0 0 0 0) ∧
    decodeTableWord 128 0x2800 = some (.setfreq 40) ∧ decodeTableWord 129 0 = none := by decide

theorem witness_SendAutoRow : (0x1923#16).extractLsb' 1 3 = 1#3 ∧ idle.cmdReady = true := by decide
theorem witness_SendHeatRow : (0x1705#16).extractLsb' 1 3 = 2#3 ∧ idle.cmdReady = true := by decide
theorem witness_SendCoolRow : (0x1436#16).extractLsb' 1 3 = 3#3 ∧ idle.cmdReady = true := by decide
theorem witness_SendDryRow : (0x1149#16).extractLsb' 1 3 = 4#3 ∧ idle.cmdReady = true := by decide
theorem witness_SendFanRow : (0xC81B#16).extractLsb' 1 3 = 5#3 ∧ idle.cmdReady = true := by decide
theorem witness_UnrecognizedModeRows :
    (0x1651#16).extractLsb' 1 3 = 0#3 ∧ (0x100F#16).extractLsb' 1 3 = 7#3 ∧ idle.cmdReady = true := by decide
theorem witness_PowerBitPicksTheCode :
    (0x1705#16).getLsbD 0 = true ∧ (0x1704#16).getLsbD 0 = false ∧ idle.cmdReady = true := by decide

theorem witness_SendMaintRow :
    idle.var = .plain ∧ idle.cmdReady = true ∧ idleSup.var = .supporting ∧ idleSup.cmdReady = true := by decide

/-- Both values of bit 0 and of the maintenance test, and every FAN value, on ready states. -/
theorem witness_FanFieldPicksTheCode :
    (0x193D#16).extractLsb' 1 3 = 6#3 ∧ idleSup.var = .supporting ∧ idle.var ≠ .supporting ∧
    (0x1705#16).extractLsb' 4 3 = 0#3 ∧ (0x1715#16).extractLsb' 4 3 = 1#3 ∧
    (0x1725#16).extractLsb' 4 3 = 2#3 ∧ (0x1735#16).extractLsb' 4 3 = 3#3 ∧
    (0x1745#16).extractLsb' 4 3 = 4#3 ∧ 5 ≤ ((0x1755#16).extractLsb' 4 3).toNat ∧
    5 ≤ ((0x1775#16).extractLsb' 4 3).toNat ∧
    (0x1705#16).getLsbD 0 = true ∧ (0x1704#16).getLsbD 0 = false := by decide

/-- TEMP 16, 17, 30, 31 and 32 outside FAN, and FAN, on ready states of either reading. -/
theorem witness_TemperatureIsValidated :
    ((0x1005#16).extractLsb' 8 8).toNat = 16 ∧ ((0x1105#16).extractLsb' 8 8).toNat = 17 ∧
    ((0x1E05#16).extractLsb' 8 8).toNat = 30 ∧ ((0x1F05#16).extractLsb' 8 8).toNat = 31 ∧
    ((0x2005#16).extractLsb' 8 8).toNat = 32 ∧ (0x1005#16).extractLsb' 1 3 ≠ 5#3 ∧
    (0x0A0B#16).extractLsb' 1 3 = 5#3 ∧ idleSup.cmdReady = true ∧
    ¬ ((0x0A0B#16).extractLsb' 1 3 = 6#3 ∧ idleSup.var = .supporting) := by decide

theorem witness_TenMeansMaintenance :
    nextIs (exec (decode (.cmd 0x190D)) idleSup) (fun t => decide (t.tuple.t = 10)) = true ∧
    nextIs (exec (decode (.cmd 0x0A0B)) { idleSup with params := halfOpen tpA })
      (fun t => decide (t.tuple.t = 31)) = true := by decide

/-- The translator's hypotheses for every word and for a pair that differs in one bit. -/
theorem witness_RowsComputeNormalize : idle.cmdReady = true ∧ idleSup.cmdReady = true := by decide

theorem witness_TranslatorIsTotal :
    idle.var = .plain ∧ idle.cmdReady = true ∧ idleSup.var = .supporting ∧ idleSup.cmdReady = true := by decide

theorem witness_PowerAndModeIndependent :
    idle.cmdReady = true ∧ (0x1705#16) ^^^ 0x0001#16 = 0x1704#16 := by decide

/-- Not ready: sending, and in reset; a script whose head is either. -/
theorem witness_UnreadyCommandWaits :
    (sending .sData 0 9 false).cmdReady = false ∧ (under idle [pin true true 0x1705 true]).cmdReady = false ∧
    (sending .sData 0 9 false).script = pin false false 0 false :: [] ∧
    (sending .sData 0 9 false).state ≠ .idle ∧ (pin true true 0x1705 true).rst = true := by decide

/-- T = 10, 17 and 31. -/
theorem witness_TemperatureEncoderTable :
    (⟨0, 0, 0, 10⟩ : Tuple).t = 10 ∧ (⟨0, 0, 0, 17⟩ : Tuple).t.toNat = 17 + (0 : Fin 15).val ∧
    (⟨0, 0, 0, 31⟩ : Tuple).t.toNat = 17 + (14 : Fin 15).val := by decide

theorem witness_AcceptStep :
    (under idle [offerPins 0x1705]).state = .idle ∧ (under idle [offerPins 0x1705]).pins.rst = false ∧
    (under idle [offerPins 0x1705]).pins.cmdValid = true ∧ (under idle [offerPins 0x1705]).pins.cmdWord = 0x1705 ∧
    ∃ t, step (under idle [offerPins 0x1705]) = .next t ∧
      (decide (t.state ≠ .idle) && decide (t.frame ≠ [])) = true :=
  ⟨by decide, by decide, by decide, by decide, exists_of_nextIs (by decide)⟩

theorem witness_IdleWaits :
    idle.state = .idle ∧ idle.pins.rst = false ∧ idle.pins.cmdValid = false ∧
    (under idle [offerPins 0x1705]).pins.cmdValid = true ∧
    (under idle [quietPins, quietPins]).script = [quietPins, quietPins] ++ [] ∧
    ∀ p ∈ [quietPins, quietPins], p.rst = false ∧ p.cmdValid = false := by decide

/-- Each state of a transmission but S_DATA, not in reset, with op_ready 0 and 1, presents its op: the
states of the rules of FreqStatePresentsCarrier, HeaderStates, GapStates and EndMarkStates. -/
theorem witness_op_states :
    ∀ r ∈ [true, false], ∀ q ∈ [SeqState.sFreq, .sHmark, .sHspace, .sGmark, .sGspace, .sEmark, .sEspace],
      (sending q 0 17 r).state = q ∧ (sending q 0 17 r).pins.rst = false ∧
      (sending q 0 17 r).pins.opReady = r ∧ (sending q 0 17 r).opWord.isSome = true := by decide

theorem witness_OpStepTransfersOnce :
    (sending .sHmark 0 0 true).opWord = some (OpWord.mark 3400) ∧ (sending .sHmark 0 0 true).pins.opReady = true ∧
    (sending .sHmark 0 0 false).opWord = some (OpWord.mark 3400) ∧
    (sending .sHmark 0 0 false).pins.opReady = false := by decide

theorem witness_FreqStatePresentsCarrier :
    (sending .sFreq 0 0 true).state = .sFreq ∧ (sending .sFreq 0 0 true).pins.rst = false ∧
    (under idle [offerPins 0x1705]).state = .idle ∧
    ∃ t, step (under idle [offerPins 0x1705]) = .next t ∧ decide (t.state ≠ .idle) = true :=
  ⟨by decide, by decide, by decide, exists_of_nextIs (by decide)⟩

theorem witness_HeaderStates :
    (sending .sHmark 1 17 true).state = .sHmark ∧ (sending .sHmark 1 17 true).pins.rst = false ∧
    (sending .sHspace 1 17 false).state = .sHspace ∧ (sending .sHspace 1 17 false).pins.rst = false ∧
    (ReachableInv (sending .sFreq 0 0 true) ∧ (sending .sFreq 0 0 true).state ≠ .sHmark ∧
      ∃ t, step (sending .sFreq 0 0 true) = .next t ∧ decide (t.state = .sHmark) = true) ∧
    (ReachableInv (sending .sGspace 0 17 true) ∧ (sending .sGspace 0 17 true).state ≠ .sHmark ∧
      ∃ t, step (sending .sGspace 0 17 true) = .next t ∧ decide (t.state = .sHmark) = true) :=
  ⟨by decide, by decide, by decide, by decide,
   ⟨sending_inv _ _ _ _ (by decide), by decide, exists_of_nextIs (by decide)⟩,
   ⟨sending_inv _ _ _ _ (by decide), by decide, exists_of_nextIs (by decide)⟩⟩

theorem witness_GapStates :
    (sending .sGmark 0 17 true).state = .sGmark ∧ (sending .sGmark 0 17 true).pins.rst = false ∧
    (sending .sGspace 0 17 true).state = .sGspace ∧ (sending .sGspace 0 17 true).burst = 0 ∧
    (∃ t, step (sending .sGspace 0 17 true) = .next t ∧ decide (t.burst = 1) = true) ∧
    (under idle [offerPins 0x1705]).burst = 1 ∧
    ∃ t, step (under idle [offerPins 0x1705]) = .next t ∧ decide (t.burst = 0) = true :=
  ⟨by decide, by decide, by decide, by decide, exists_of_nextIs (by decide), by decide,
   exists_of_nextIs (by decide)⟩

/-- S_DATA at 0, 16 and 17 of either burst, entered from S_HSPACE, and V1's byte 7. -/
theorem witness_DataStateSendsTheFrame :
    (∀ b ∈ [(0 : BitVec 1), 1], ∀ k ∈ [(0 : BitVec 5), 16, 17],
      (sending .sData b k true).state = .sData ∧ (sending .sData b k true).pins.rst = false ∧
      Memory.read (sending .sData b k true).frame k.toNat ≠ none) ∧
    Memory.read (sending .sData 0 17 true).frame 17 = some 0xB5 ∧
    nextIs (step (sending .sHspace 0 0 true)) (at_ .sData 0 0) = true ∧
    (sending .sData 0 7 true).tuple.t = 23 := by decide
theorem witness_DataStateSendsTheFrame_inv : ReachableInv (sending .sData 0 7 true) :=
  sending_inv _ _ _ _ (by decide)

/-- Steps that enter each state with a rule of entry, and the one that sets BURST. -/
theorem witness_entries :
    nextIs (step (sending .sFreq 0 0 true)) (fun t => decide (t.state = .sHmark)) = true ∧
    nextIs (step (sending .sGspace 0 17 true)) (fun t => decide (t.state = .sHmark) && decide (t.burst = 1)) = true ∧
    nextIs (step (sending .sData 0 17 true)) (fun t => decide (t.state = .sGmark)) = true ∧
    nextIs (step (sending .sGmark 0 17 true)) (fun t => decide (t.state = .sGspace)) = true ∧
    nextIs (step (sending .sData 1 17 true)) (fun t => decide (t.state = .sEmark)) = true ∧
    nextIs (step (under idle [offerPins 0x1705])) (fun t => decide (t.state = .sFreq)) = true := by decide

theorem witness_EndMarkStates :
    ReachableInv (sending .sEspace 1 17 true) ∧ (sending .sEspace 1 17 true).state = .sEspace ∧
    (sending .sEspace 1 17 true).pins.rst = false ∧ (sending .sEspace 1 17 true).pins.opReady = true ∧
    ∃ t, step (sending .sEspace 1 17 true) = .next t ∧ at_ .idle 1 17 t = true :=
  ⟨sending_inv _ _ _ _ (by decide), by decide, by decide, by decide, exists_of_nextIs (by decide)⟩

/-- The three cases: held, accepting, moving. -/
theorem witness_ControlMovesForward :
    (ReachableInv idle ∧ ∃ t, step idle = .next t ∧ at_ .idle 1 17 t = true) ∧
    (ReachableInv (sending .sData 0 9 false) ∧
      ∃ t, step (sending .sData 0 9 false) = .next t ∧ at_ .sData 0 9 t = true) ∧
    (ReachableInv (under idle [offerPins 0x1705]) ∧
      ∃ t, step (under idle [offerPins 0x1705]) = .next t ∧ at_ .sFreq 0 0 t = true) ∧
    (ReachableInv (sending .sData 1 17 true) ∧
      ∃ t, step (sending .sData 1 17 true) = .next t ∧ at_ .sEmark 1 17 t = true) :=
  ⟨⟨idle_inv, exists_of_nextIs (by decide)⟩,
   ⟨sending_inv _ _ _ _ (by decide), exists_of_nextIs (by decide)⟩,
   ⟨idle_inv, exists_of_nextIs (by decide)⟩,
   ⟨sending_inv _ _ _ _ (by decide), exists_of_nextIs (by decide)⟩⟩

/-- Two steps without op_ready, for OfferedWordIsStable and StalledServiceHoldsTheBlock. -/
def stalled : State :=
  under (sending .sHmark 0 0 false) [pin false false 0 false, pin false true 0x1651 false, quietPins]

theorem witness_OfferedWordIsStable :
    stalled.opWord = some (OpWord.mark 3400) ∧ stalled.pins.opReady = false ∧
    ∃ t, step stalled = .next t ∧ (!t.pins.rst) = true :=
  ⟨by decide, by decide, exists_of_nextIs (by decide)⟩

theorem witness_StalledServiceHoldsTheBlock :
    stalled.script = [pin false false 0 false, pin false true 0x1651 false] ++ [quietPins] ∧
    (∀ p ∈ [pin false false 0 false, pin false true 0x1651 false], p.rst = false ∧ p.opReady = false) ∧
    stalled.opWord = some (OpWord.mark 3400) ∧ quietPins.rst = false := by decide

theorem witness_SetfreqSetsTheCarrier :
    ({ idle with carrier := some 40 } : State).carrier = some 40 ∧
    (sending .sFreq 0 0 true).opWord = some (OpWord.setfreq 40) ∧
    decode (.op (OpWord.setfreq 40)) = .setfreq 40 := by decide

theorem witness_SendbyteEmitsTheBits :
    idle.params.bitOrder = .lsbFirst ∧
    ({ idle with params := { tpA with bitOrder := .msbFirst } } : State).params.bitOrder = .msbFirst := by decide

/-- An accept step, and a step of a transmission whose stream stands at the start and within. -/
theorem witness_StreamFollowsThePosition :
    (∃ t, step (under idle [offerPins 0x1705]) = .next t ∧ at_ .sFreq 0 0 t = true) ∧
    (ReachableInv (sending .sFreq 0 0 true) ∧ Holds (sending .sFreq 0 0 true).frame v1Frame ∧
      (sending .sFreq 0 0 true).state ≠ .idle ∧ (sending .sFreq 0 0 true).pins.rst = false ∧
      StreamAt [] v1Frame (sending .sFreq 0 0 true) ∧
      ∃ t, step (sending .sFreq 0 0 true) = .next t ∧ at_ .sHmark 0 0 t = true) ∧
    StreamAt [] v1Frame
      { sending .sData 1 17 true with opStream := (commandStream tpA v1Frame).take 42 } := by
  refine ⟨exists_of_nextIs (by decide), ⟨sending_inv _ _ _ _ (by decide), ?_, by decide, by decide, ?_,
    exists_of_nextIs (by decide)⟩, ?_⟩
  · unfold Holds; decide
  · unfold StreamAt; rfl
  · unfold StreamAt; rfl

/-- The script of one whole command: the offer, 45 steps of a ready service, a quiet step. -/
def wholeCommand : State :=
  under idle (offerPins 0x1705 :: List.replicate 45 (pin false false 0 true) ++ quietPins :: [])

theorem witness_WholeCommandEmitsTheStream :
    wholeCommand.state = .idle ∧ (offerPins 0x1705).rst = false ∧ (offerPins 0x1705).cmdValid = true ∧
    (List.replicate 45 (pin false false 0 true)).length = 45 ∧
    (∀ p ∈ List.replicate 45 (pin false false 0 true), p.rst = false ∧ p.opReady = true) ∧
    wholeCommand.script = offerPins 0x1705 :: List.replicate 45 (pin false false 0 true) ++ [quietPins] := by
  decide

theorem witness_WholeCommandReachesTheAir :
    wholeCommand.accepted = none ∧ quietPins.rst = false ∧ quietPins.cmdValid = false ∧
    wholeCommand.script = offerPins 0x1705 :: List.replicate 45 (pin false false 0 true) ++ quietPins :: [] := by
  decide

theorem witness_PulseCounts :
    (streamPulses .lsbFirst (commandStream tpA v1Frame))[0]? = some (.mark 3400) ∧
    (streamPulses .msbFirst (commandStream tpA v1Frame))[1]? = some (.space 1750) := ⟨rfl, rfl⟩

theorem witness_CommandsBackToBack :
    (under (sending .sEspace 1 17 true) [pin false true 0x282A true, offerPins 0x282A, quietPins]).state = .sEspace ∧
    (under (sending .sEspace 1 17 true) [pin false true 0x282A true, offerPins 0x282A, quietPins]).script =
      pin false true 0x282A true :: offerPins 0x282A :: quietPins :: [] ∧
    (pin false true 0x282A true).rst = false ∧ (pin false true 0x282A true).opReady = true ∧
    (offerPins 0x282A).rst = false ∧ (offerPins 0x282A).cmdValid = true ∧ quietPins.rst = false := by decide

/-- Reset in IDLE with an offer and in the middle of a transmission, rst released after. -/
theorem witness_ResetStep :
    (under idle [pin true true 0x1705 true, quietPins]).pins.rst = true ∧
    (under (sending .sHmark 1 17 true) [pin true false 0 true, quietPins]).pins.rst = true ∧
    nextIs (step (under (sending .sHmark 1 17 true) [pin true false 0 true, quietPins]))
      (fun t => !t.pins.rst && t.cmdReady) = true := by decide

/-- A script of the statement's own, so that its premise on rst is met by the state it speaks of. -/
theorem witness_ResetValues :
    ({ State.reset with script := [quietPins] } : State).pins.rst = false ∧
    ({ State.reset with script := [quietPins] } : State).cmdReady = true := ⟨rfl, rfl⟩

theorem witness_VariantFixedByReset :
    (∃ t, step (under idle [pin true false 0 true]) = .next t ∧ decide (t.var = .supporting) = true) ∧
    (∃ t, step (sending .sFreq 0 0 true) = .next t ∧ decide (t.var = .plain) = true) ∧
    (∀ o, Instr.sendHeat ⟨true, .auto, false, 23⟩ ≠ .sendMaint o) ∧
    (∃ t, exec (.sendHeat ⟨true, .auto, false, 23⟩) idle = .next t ∧ decide (t.var = .plain) = true) ∧
    idle.script = quietPins :: [] ∧ quietPins.rst = false :=
  ⟨exists_of_nextIs (by decide), exists_of_nextIs (by decide), fun _ h => Instr.noConfusion h,
   exists_of_nextIs (by decide), rfl, rfl⟩

theorem witness_InvariantKept :
    ReachableInv (sending .sData 0 17 true) ∧
      ∃ t, step (sending .sData 0 17 true) = .next t ∧ at_ .sGmark 0 17 t = true :=
  ⟨sending_inv _ _ _ _ (by decide), exists_of_nextIs (by decide)⟩

theorem witness_StepKeepsFormAndParameters :
    Memory.wf (sending .sData 0 17 true).frame ∧
      (∃ t, step (sending .sData 0 17 true) = .next t ∧ at_ .sGmark 0 17 t = true) ∧
    ∃ t, step (under idle [offerPins 0x1705]) = .next t ∧ decide (t.frame.length = 18) = true :=
  ⟨by decide, exists_of_nextIs (by decide), exists_of_nextIs (by decide)⟩

theorem witness_StopsAreModelOnlyFaults :
    (sending (.unused 6) 0 0 false).pins.rst = false ∧ (sending (.unused 6) 0 0 false).state = .unused 6 ∧
    17 < (sending .sData 0 18 true).idx.toNat ∧ (sending .sData 0 17 true).idx.toNat ≤ 17 ∧
    Memory.read ({ sending .sData 0 17 true with frame := [] } : State).frame 17 = none ∧
    step (sending (.unused 6) 0 0 false) = .fault (.unusedState 6) :=
  ⟨by decide, by decide, by decide, by decide, by decide, rfl⟩

theorem witness_FrameSteadyInTransmission :
    (under idle [offerPins 0x1705]).state = .idle ∧
    (∃ t, step (under idle [offerPins 0x1705]) = .next t ∧ decide (t.state = .sFreq) = true) ∧
    (sending .sData 0 9 true).state ≠ .idle ∧
    ∃ t, step (sending .sData 0 9 true) = .next t ∧ at_ .sData 0 10 t = true :=
  ⟨by decide, exists_of_nextIs (by decide), by decide, exists_of_nextIs (by decide)⟩

end Sys2Proof.Tests
end

