-- ==== Sys2Proof/Proofs/ControlState.lean ====
section
/-! The family of 10_state.md: where (STATE, BURST, IDX) goes in a step (R32), and who writes and who
reads VAR (R22). -/

namespace Sys2Proof.Machine

open Sys2Proof.Safety

/-! ## The block's turn outside reset, case by case -/

theorem blockTurn_of_fault {s : State} {e : Fault} (hrst : s.pins.rst = false)
    (hw : s.presentedWord = .error e) : blockTurn s = .fault e := by
  simp [blockTurn, hrst, hw]

theorem blockTurn_of_idle {s : State} (hrst : s.pins.rst = false)
    (hw : s.presentedWord = .ok none) : blockTurn s = idleTurn s := by
  simp [blockTurn, hrst, hw]

theorem blockTurn_of_op {s : State} {w : OpWord} (hrst : s.pins.rst = false)
    (hw : s.presentedWord = .ok (some w)) : blockTurn s = opTurn w s := by
  simp [blockTurn, hrst, hw]

theorem idleTurn_of_offer {s : State} (hvalid : s.pins.cmdValid = true) :
    idleTurn s = exec (decode (.cmd s.pins.cmdWord)) s := by
  simp [idleTurn, hvalid]

theorem idleTurn_of_no_offer {s : State} (hvalid : s.pins.cmdValid = false) :
    idleTurn s = .next s := by
  simp [idleTurn, hvalid]

theorem state_ne_idle_of_presents {s : State} {w : OpWord} (hw : s.presentedWord = .ok (some w)) :
    s.state ≠ .idle := by
  intro hidle
  simp [presentedWord_idle hidle] at hw

/-- A command that the idle block takes outside reset is accepted with some tuple. -/
theorem accept_of_exec_decodeCmd {w : CmdWord} {s t : State} (hidle : s.state = .idle)
    (hrst : s.pins.rst = false) (h : exec (decode (.cmd w)) s = .next t) :
    ∃ tup, t = s.accept tup := by
  have hready : s.cmdReady = true := s.cmdReady_iff.mpr ⟨hidle, hrst⟩
  rcases exec_decodeCmd_cases w s with ⟨-, tup, haccept⟩ | ⟨hwaits, -⟩
  · rw [haccept] at h
    cases h
    exact ⟨tup, rfl⟩
  · simp [hready] at hwaits

/-! ## Leaving S_DATA or staying in it (42_pulse_sequencer.md R177) -/

theorem advanceData_of_lt {s : State} (hidx : s.idx.toNat < 17) :
    s.advanceData = s.setIdx (s.idx + 1) := by
  simp [State.advanceData, hidx]

theorem advanceData_of_first_burst {s : State} (hidx : ¬s.idx.toNat < 17) (hburst : s.burst = 0) :
    s.advanceData = s.enter .sGmark := by
  simp [State.advanceData, hidx, hburst]

theorem advanceData_of_second_burst {s : State} (hidx : ¬s.idx.toNat < 17) (hburst : s.burst ≠ 0) :
    s.advanceData = s.enter .sEmark := by
  rw [State.advanceData, if_neg hidx, if_neg hburst]

/-! ## The position in the command (10_state.md R32) -/

@[simp] theorem accept_position (s : State) (tup : Tuple) : (s.accept tup).position = 0 := rfl

/-- Inside a command at least one op is still to come. -/
theorem position_lt_of_busy {s : State} (hinv : ReachableInv s) (hbusy : s.state ≠ .idle) :
    s.position < 45 := by
  obtain ⟨hused, hidx, -⟩ := hinv
  have hburst : s.burst.toNat < 2 := s.burst.isLt
  cases hq : s.state with
  | idle => exact absurd hq hbusy
  | unused n => exact absurd hq (hused n)
  | sFreq | sHmark | sHspace | sData | sGmark | sGspace | sEmark | sEspace =>
    simp only [State.position, hq]
    omega

theorem position_of_sData {s : State} (h : s.state = .sData) :
    s.position = 3 + 22 * s.burst.toNat + s.idx.toNat := by
  simp [State.position, h]

/-- S_DATA goes to the next byte of the frame, or after the last one to the mark that follows the
burst. -/
theorem advanceData_position {s : State} (hdata : s.state = .sData) (hidx : s.idx.toNat ≤ 17) :
    s.advanceData.position = s.position + 1 := by
  rw [position_of_sData hdata]
  by_cases hlt : s.idx.toNat < 17
  · have hnext : (s.idx + 1).toNat = s.idx.toNat + 1 := by bv_omega
    have hpos : (s.setIdx (s.idx + 1)).position = 3 + 22 * s.burst.toNat + (s.idx + 1).toNat :=
      position_of_sData hdata
    rw [advanceData_of_lt hlt, hpos, hnext]
    rfl
  · have hlast : s.idx.toNat = 17 := by omega
    by_cases hburst : s.burst = 0
    · have hgap : (s.enter .sGmark).position = 21 := rfl
      simp [advanceData_of_first_burst hlt hburst, hgap, hlast, hburst]
    · have hsecond : s.burst.toNat = 1 := by bv_omega
      have hend : (s.enter .sEmark).position = 43 := rfl
      rw [advanceData_of_second_burst hlt hburst, hend, hlast, hsecond]

/-- A handshake inside a command moves the block exactly one position forward. -/
theorem advance_position {s : State} (hinv : ReachableInv s) (hbusy : s.state ≠ .idle) :
    s.advance.position = s.position + 1 := by
  obtain ⟨hused, hidx, hburst0, -⟩ := hinv
  cases hq : s.state with
  | idle => exact absurd hq hbusy
  | unused n => exact absurd hq (hused n)
  | sFreq =>
    have hburst : s.burst = 0 := hburst0 (.inl hq)
    simp [State.advance, State.position, hq, hburst]
  | sData =>
    have hadv : s.advance = s.advanceData := by simp [State.advance, hq]
    rw [hadv, advanceData_position hq hidx]
  | sHmark | sHspace =>
    simp [State.advance, State.position, hq]
    omega
  | sGmark | sGspace | sEmark | sEspace => simp [State.advance, State.position, hq]

/-- From s to t the control position is held for want of a handshake, goes to the start of an accepted
command, or moves one op forward (10_state.md R32). -/
def MovesForward (s t : State) : Prop :=
  ((s.state = .idle → s.pins.cmdValid = false) ∧ (s.state ≠ .idle → s.pins.opReady = false) ∧
    t.state = s.state ∧ t.burst = s.burst ∧ t.idx = s.idx) ∨
  (s.state = .idle ∧ s.pins.cmdValid = true ∧ t.position = 0) ∨
  (s.state ≠ .idle ∧ s.pins.opReady = true ∧ t.position = s.position + 1 ∧ t.position ≤ 45)

theorem movesForward_of_transfer {s : State} (w : OpWord) (hinv : ReachableInv s)
    (hbusy : s.state ≠ .idle) (hready : s.pins.opReady = true) :
    MovesForward s (s.transfer w).advance := by
  have hnext : (s.transfer w).advance.position = s.position + 1 :=
    advance_position (s := s.transfer w) hinv hbusy
  have hlt : s.position < 45 := position_lt_of_busy hinv hbusy
  exact .inr (.inr ⟨hbusy, hready, hnext, by omega⟩)

theorem blockTurn_movesForward {s t : State} (hinv : ReachableInv s) (hrst : s.pins.rst = false)
    (h : blockTurn s = .next t) : MovesForward s t := by
  rcases blockTurn_cases h with
    ⟨hreset, -⟩ | ⟨-, hidle, hvalid, hexec⟩ | ⟨-, hidle, hnone, rfl⟩ |
    ⟨-, hstall, ⟨w, hw⟩, rfl⟩ | ⟨-, hready, w, hw, rfl⟩
  · simp [hrst] at hreset
  · obtain ⟨tup, rfl⟩ := accept_of_exec_decodeCmd hidle hrst hexec
    exact .inr (.inl ⟨hidle, hvalid, accept_position s tup⟩)
  · exact .inl ⟨fun _ => hnone, fun hbusy => absurd hidle hbusy, rfl, rfl, rfl⟩
  · exact .inl ⟨fun hidle => absurd hidle (state_ne_idle_of_presents hw), fun _ => hstall, rfl, rfl, rfl⟩
  · exact movesForward_of_transfer w hinv (state_ne_idle_of_presents hw) hready

/-- Settles O38: the block's turn moves the position, and the service's turn and the end of the step
leave it and the inputs alone. -/
theorem controlMovesForward : Obligations.ControlMovesForward := by
  intro s t hinv hrst hstep
  obtain ⟨c, a, u, hblock, rfl⟩ := step_cases hstep
  exact blockTurn_movesForward (s := { s with accepted := none, carrier := c, air := a }) (t := u)
    hinv hrst hblock

/-! ## VAR and the strap (10_state.md R22) -/

theorem exec_decodeCmd_var {w : CmdWord} {s t : State} (h : exec (decode (.cmd w)) s = .next t) :
    t.var = s.var := by
  rcases exec_decodeCmd_cases w s with ⟨-, tup, hexec⟩ | ⟨-, hexec⟩ <;>
    · rw [hexec] at h
      cases h
      rfl

theorem blockTurn_var {s t : State} (h : blockTurn s = .next t) :
    t.var = if s.pins.rst then s.pins.cfgVariant else s.var := by
  rcases blockTurn_cases h with
    ⟨hrst, rfl⟩ | ⟨hrst, -, -, hexec⟩ | ⟨hrst, -, -, rfl⟩ | ⟨hrst, -, -, rfl⟩ | ⟨hrst, -, w, -, rfl⟩
  · simp [hrst]
  · simp [hrst, exec_decodeCmd_var hexec]
  · simp [hrst]
  · simp [hrst]
  · obtain ⟨-, hvar, -⟩ := advance_frame (s.transfer w)
    simp [hrst, hvar]

theorem step_var {s t : State} (h : step s = .next t) :
    t.var = if s.pins.rst then s.pins.cfgVariant else s.var := by
  obtain ⟨c, a, u, hblock, rfl⟩ := step_cases h
  exact blockTurn_var (s := { s with accepted := none, carrier := c, air := a }) (t := u) hblock

/-- f leaves VAR as it is and does the same whatever VAR is. -/
def VarBlind (f : State → Result) : Prop :=
  ∀ (s t : State) (v : Variant), f s = .next t →
    t.var = s.var ∧ f { s with var := v } = .next { t with var := v }

theorem varBlind_sendCommand (o : CmdOperands) (row : Params → ModeRow) :
    VarBlind fun s => sendCommand o (row s.params) s := by
  intro s t v h
  cases hready : s.cmdReady with
  | true =>
    have hready' : ({ s with var := v } : State).cmdReady = true := hready
    simp only [sendCommand_ready _ _ hready] at h
    cases h
    exact ⟨rfl, sendCommand_ready _ _ hready'⟩
  | false =>
    have hready' : ({ s with var := v } : State).cmdReady = false := hready
    simp only [sendCommand_waits _ _ hready] at h
    cases h
    exact ⟨rfl, sendCommand_waits _ _ hready'⟩

theorem varBlind_setCarrier (khz : Byte) : VarBlind fun s => .next (s.setCarrier khz) := by
  intro s t v h
  cases h
  exact ⟨rfl, rfl⟩

theorem varBlind_emit (ps : Params → List Pulse) : VarBlind fun s => .next (s.emit (ps s.params)) := by
  intro s t v h
  cases h
  exact ⟨rfl, rfl⟩

/-- Only the MAINTENANCE row reads VAR. -/
theorem varBlind_exec {i : Instr} (hi : ∀ o, i ≠ .sendMaint o) : VarBlind (exec i) := by
  cases i with
  | sendMaint o => exact absurd rfl (hi o)
  | sendRsv0 o => exact varBlind_sendCommand o (rowRsv0 · o)
  | sendAuto o => exact varBlind_sendCommand o (rowAuto · o)
  | sendHeat o => exact varBlind_sendCommand o (rowHeat · o)
  | sendCool o => exact varBlind_sendCommand o (rowCool · o)
  | sendDry o => exact varBlind_sendCommand o (rowDry · o)
  | sendFan o => exact varBlind_sendCommand o (rowFan · o)
  | sendRsv7 o => exact varBlind_sendCommand o (rowRsv7 · o)
  | setfreq khz => exact varBlind_setCarrier khz
  | mark us => exact varBlind_emit fun _ => [.mark us]
  | space us => exact varBlind_emit fun _ => [.space us]
  | sendbyte b bm zs os => exact varBlind_emit fun p => bytePulses p.bitOrder b bm zs os

/-! ### A step outside reset with another strap

The inputs stand in State, so two steps that differ in cfg_variant alone start in different states; they
meet at the end of the step, which drops the inputs. -/

/-- The state with p as the inputs of its next step, and rest as those that follow. -/
def State.driven (s : State) (p : Pins) (rest : List Pins) : State :=
  { s with script := p :: rest }

@[simp] theorem driven_pins (s : State) (p : Pins) (rest : List Pins) :
    (s.driven p rest).pins = p := rfl
@[simp] theorem driven_state (s : State) (p : Pins) (rest : List Pins) :
    (s.driven p rest).state = s.state := rfl

/-- The service does not see the inputs. -/
theorem serviceTurn_driven (s : State) (rest : List Pins) :
    ∃ u : State, ∀ p, serviceTurn (s.driven p rest) = .next (u.driven p rest) := by
  cases haccepted : s.accepted with
  | none => exact ⟨s, fun p => by simp [serviceTurn, State.driven, haccepted]⟩
  | some w =>
    have hturn : ∀ p, serviceTurn (s.driven p rest) =
        exec (decode (.op w)) (s.clearAccepted.driven p rest) := fun p => by
      simp [serviceTurn, State.driven, State.clearAccepted, haccepted]
    simp only [hturn, decode, decodeOp]
    split
    · exact ⟨s.clearAccepted.setCarrier _, fun _ => rfl⟩
    · exact ⟨s.clearAccepted.emit [.mark _], fun _ => rfl⟩
    · exact ⟨s.clearAccepted.emit [.space _], fun _ => rfl⟩
    · exact ⟨s.clearAccepted.emit (bytePulses s.params.bitOrder _ _ _ _), fun _ => rfl⟩

/-- A command writes the same whatever the strap, and the inputs are dropped after it. -/
theorem sendCommand_strap (o : CmdOperands) (r : ModeRow) (s : State) (p : Pins) (rest : List Pins)
    (v : Variant) :
    andThen (sendCommand o r (s.driven { p with cfgVariant := v } rest)) finishStep =
      andThen (sendCommand o r (s.driven p rest)) finishStep := by
  have hready : (s.driven { p with cfgVariant := v } rest).cmdReady = (s.driven p rest).cmdReady := rfl
  unfold sendCommand
  rw [hready]
  split <;> rfl

theorem exec_decodeCmd_strap (w : CmdWord) (s : State) (p : Pins) (rest : List Pins) (v : Variant) :
    andThen (exec (decode (.cmd w)) (s.driven { p with cfgVariant := v } rest)) finishStep =
      andThen (exec (decode (.cmd w)) (s.driven p rest)) finishStep := by
  simp only [decode, decodeCmd]
  split <;> exact sendCommand_strap _ _ s p rest v

theorem idleTurn_strap (s : State) (p : Pins) (rest : List Pins) (v : Variant) :
    andThen (idleTurn (s.driven { p with cfgVariant := v } rest)) finishStep =
      andThen (idleTurn (s.driven p rest)) finishStep := by
  rcases Bool.eq_false_or_eq_true p.cmdValid with hvalid | hvalid
  · rw [idleTurn_of_offer (s := s.driven p rest) hvalid,
      idleTurn_of_offer (s := s.driven { p with cfgVariant := v } rest) hvalid]
    exact exec_decodeCmd_strap p.cmdWord s p rest v
  · rw [idleTurn_of_no_offer (s := s.driven p rest) hvalid,
      idleTurn_of_no_offer (s := s.driven { p with cfgVariant := v } rest) hvalid]
    rfl

theorem advanceData_driven (s : State) (p : Pins) (rest : List Pins) :
    (s.driven p rest).advanceData = s.advanceData.driven p rest := by
  by_cases hlt : s.idx.toNat < 17
  · rw [advanceData_of_lt hlt, advanceData_of_lt (s := s.driven p rest) hlt]
    rfl
  · by_cases hburst : s.burst = 0
    · rw [advanceData_of_first_burst hlt hburst,
        advanceData_of_first_burst (s := s.driven p rest) hlt hburst]
      rfl
    · rw [advanceData_of_second_burst hlt hburst,
        advanceData_of_second_burst (s := s.driven p rest) hlt hburst]
      rfl

/-- The control position advances whatever the inputs, and leaves them. -/
theorem advance_driven (s : State) (p : Pins) (rest : List Pins) :
    (s.driven p rest).advance = s.advance.driven p rest := by
  simp only [State.advance, driven_state]
  cases s.state with
  | sData => exact advanceData_driven s p rest
  | _ => rfl

theorem opTurn_strap (w : OpWord) (s : State) (p : Pins) (rest : List Pins) (v : Variant) :
    andThen (opTurn w (s.driven { p with cfgVariant := v } rest)) finishStep =
      andThen (opTurn w (s.driven p rest)) finishStep := by
  have htransfer : ∀ q, ((s.driven q rest).transfer w).advance = (s.transfer w).advance.driven q rest :=
    fun q => advance_driven (s.transfer w) q rest
  simp only [opTurn, driven_pins, htransfer]
  split <;> rfl

theorem blockTurn_strap {s : State} {p : Pins} (rest : List Pins) (v : Variant) (hrst : p.rst = false) :
    andThen (blockTurn (s.driven { p with cfgVariant := v } rest)) finishStep =
      andThen (blockTurn (s.driven p rest)) finishStep := by
  have hrun : (s.driven p rest).pins.rst = false := hrst
  have hrun' : (s.driven { p with cfgVariant := v } rest).pins.rst = false := hrst
  cases hw : s.presentedWord with
  | error e => rw [blockTurn_of_fault hrun hw, blockTurn_of_fault hrun' hw]
  | ok offered =>
    cases offered with
    | none =>
      rw [blockTurn_of_idle hrun hw, blockTurn_of_idle hrun' hw]
      exact idleTurn_strap s p rest v
    | some w =>
      rw [blockTurn_of_op hrun hw, blockTurn_of_op hrun' hw]
      exact opTurn_strap w s p rest v

/-- A step outside reset does not see cfg_variant. -/
theorem step_strap (s : State) {p : Pins} (rest : List Pins) (v : Variant) (hrst : p.rst = false) :
    step (s.driven { p with cfgVariant := v } rest) = step (s.driven p rest) := by
  obtain ⟨u, hu⟩ := serviceTurn_driven s rest
  simp only [step, hu, andThen_next]
  exact blockTurn_strap rest v hrst

/-- Settles O54, clause by clause. -/
theorem variantFixedByReset : Obligations.VariantFixedByReset := by
  refine ⟨fun s t => step_var, fun i s t v hi => varBlind_exec hi s t v, ?_⟩
  intro s p rest v hscript hrst
  have hs : s.driven p rest = s := by simp [State.driven, ← hscript]
  calc step (s.driven { p with cfgVariant := v } rest)
      = step (s.driven p rest) := step_strap s rest v hrst
    _ = step s := by rw [hs]

end Sys2Proof.Machine
end

/-! The family of 20_memory.md: what a frame holds once it is built and who writes FRAME (R56), and the
word held at the op port (R57). -/

namespace Sys2Proof.Machine

open Sys2Proof.Safety

/-! ## The build: each step writes its own bytes (41_frame_builder.md R141, R142, R145) -/

theorem getElem_templateFrame_of_ne (p : Params) {k : Nat} (hk : k < 18) (h15 : k ≠ 15) :
    (templateFrame p)[k] = p.template[k] :=
  Vector.getElem_set_ne _ _ h15.symm

theorem getElem_placeFields_of_ne (tup : Tuple) (f : Frame) {k : Nat} (hk : k < 18) (h5 : k ≠ 5)
    (h6 : k ≠ 6) (h9 : k ≠ 9) : (placeFields tup f)[k] = f[k] := by
  simp [placeFields, h5.symm, h6.symm, h9.symm]

theorem getElem_encodeTemp_of_ne (p : Params) (t : Byte) (f : Frame) {k : Nat} (hk : k < 18)
    (h7 : k ≠ 7) (h15 : k ≠ 15) : (encodeTemp p t f)[k] = f[k] := by
  unfold encodeTemp
  split <;> simp [h7.symm, h15.symm]

theorem getElem_appendChecksum_of_ne (f : Frame) {k : Nat} (hk : k < 18) (h17 : k ≠ 17) :
    (appendChecksum f)[k] = f[k] :=
  Vector.getElem_set_ne _ _ h17.symm

theorem placeFields_bytes (tup : Tuple) (f : Frame) :
    (placeFields tup f)[5] = tup.p ∧ (placeFields tup f)[6] = tup.m ∧ (placeFields tup f)[9] = tup.f := by
  simp [placeFields]

theorem encodeTemp_bytes_of_maint (p : Params) (f : Frame) :
    (encodeTemp p 10 f)[7] = 0x00 ∧ (encodeTemp p 10 f)[15] = 0x20 := by
  simp [encodeTemp, Config.tempMaint, Config.byte15Maint]

theorem encodeTemp_bytes_of_normal (p : Params) {t : Byte} (f : Frame) (ht : t ≠ 10) :
    (encodeTemp p t f)[7] = t - 16 ∧ (encodeTemp p t f)[15] = 0x40 := by
  have henc : encodeTemp p t f = (f.set 7 (t - Config.tempOffset)).set 15 (templateFrame p)[15] :=
    if_neg ht
  simp [henc, Config.tempOffset, templateFrame, Config.byte15Normal]

/-- The checksum byte lies outside the bytes summed, so writing it keeps the sum. -/
theorem checksum_appendChecksum (f : Frame) : checksum (appendChecksum f) = checksum f := by
  simp [checksum, appendChecksum, Vector.toList_set, List.take_set_of_le]

theorem getElem_appendChecksum_last (f : Frame) :
    (appendChecksum f)[17] = sum8 ((appendChecksum f).toList.take 17) :=
  calc (appendChecksum f)[17]
      = checksum f := Vector.getElem_set_self _
    _ = checksum (appendChecksum f) := (checksum_appendChecksum f).symm

/-! ## The built frame (41_frame_builder.md R147) -/

/-- After the temperature encoder only the checksum byte is written. -/
theorem getElem_build_of_ne (p : Params) (tup : Tuple) {k : Nat} (hk : k < 18) (h17 : k ≠ 17) :
    (build p tup)[k] = (encodeTemp p tup.t (placeFields tup (templateFrame p)))[k] :=
  getElem_appendChecksum_of_ne _ hk h17

theorem getElem_build_of_placed (p : Params) (tup : Tuple) {k : Nat} (hk : k < 18)
    (hplaced : k ∉ [7, 15, 17]) : (build p tup)[k] = (placeFields tup (templateFrame p))[k] := by
  obtain ⟨h7, h15, h17⟩ : k ≠ 7 ∧ k ≠ 15 ∧ k ≠ 17 := by simpa using hplaced
  rw [getElem_build_of_ne p tup hk h17, getElem_encodeTemp_of_ne p tup.t _ hk h7 h15]

theorem getElem_build_of_template (p : Params) (tup : Tuple) {k : Nat} (hk : k < 18)
    (hfixed : k ∉ [5, 6, 7, 9, 15, 17]) : (build p tup)[k] = p.template[k] := by
  obtain ⟨h5, h6, h7, h9, h15, h17⟩ : k ≠ 5 ∧ k ≠ 6 ∧ k ≠ 7 ∧ k ≠ 9 ∧ k ≠ 15 ∧ k ≠ 17 := by
    simpa using hfixed
  rw [getElem_build_of_placed p tup hk (by simp [h7, h15, h17]), getElem_placeFields_of_ne tup _ hk h5 h6 h9,
    getElem_templateFrame_of_ne p hk h15]

theorem isFrameOf_build (p : Params) (tup : Tuple) : IsFrameOf p tup (build p tup) := by
  obtain ⟨hp, hm, hf⟩ := placeFields_bytes tup (templateFrame p)
  have placed {k : Nat} (hk : k < 18) := getElem_build_of_placed p tup hk
  have encoded {k : Nat} (hk : k < 18) := getElem_build_of_ne p tup hk
  refine ⟨fun k hfixed => getElem_build_of_template p tup k.isLt hfixed,
    (placed (by decide) (by decide)).trans hp, (placed (by decide) (by decide)).trans hm,
    (placed (by decide) (by decide)).trans hf, fun hmaint => ?_, fun hnormal => ?_,
    getElem_appendChecksum_last _⟩
  · rw [encoded (by decide) (by decide), encoded (by decide) (by decide), hmaint]
    exact encodeTemp_bytes_of_maint p _
  · rw [encoded (by decide) (by decide), encoded (by decide) (by decide)]
    exact encodeTemp_bytes_of_normal p _ hnormal

theorem frameBuilt_accept (s : State) (tup : Tuple) :
    FrameBuilt (s.accept tup).params (s.accept tup).tuple (s.accept tup).frame :=
  ⟨build s.params tup, holds_storeFrame s.frame _, isFrameOf_build s.params tup⟩

/-! ## Who writes FRAME (20_memory.md R56) -/

/-- The only way out of IDLE is to accept a command. -/
theorem accept_of_blockTurn_leaves_idle {s t : State} (hidle : s.state = .idle)
    (hleft : t.state ≠ .idle) (h : blockTurn s = .next t) : ∃ tup, t = s.accept tup := by
  rcases blockTurn_cases h with
    ⟨-, rfl⟩ | ⟨hrst, -, -, hexec⟩ | ⟨-, -, -, rfl⟩ | ⟨-, -, -, rfl⟩ | ⟨-, -, w, hw, -⟩
  · exact absurd rfl hleft
  · exact accept_of_exec_decodeCmd hidle hrst hexec
  · exact absurd hidle hleft
  · exact absurd hidle hleft
  · exact absurd hidle (state_ne_idle_of_presents hw)

/-- Reset, a stall and a handshake all leave FRAME and the tuple alone. -/
theorem blockTurn_keeps_frame_of_busy {s t : State} (hbusy : s.state ≠ .idle)
    (h : blockTurn s = .next t) : t.frame = s.frame ∧ t.tuple = s.tuple := by
  rcases blockTurn_cases h with
    ⟨-, rfl⟩ | ⟨-, hidle, -, -⟩ | ⟨-, hidle, -, -⟩ | ⟨-, -, -, rfl⟩ | ⟨-, -, w, -, rfl⟩
  · exact ⟨rfl, rfl⟩
  · exact absurd hidle hbusy
  · exact absurd hidle hbusy
  · exact ⟨rfl, rfl⟩
  · obtain ⟨-, -, htuple, hframe, -⟩ := advance_frame (s.transfer w)
    exact ⟨hframe, htuple⟩

/-- Settles O59: the accept step stores the whole build, and only an accept step writes FRAME. -/
theorem frameSteadyInTransmission : Obligations.FrameSteadyInTransmission := by
  refine ⟨?_, ?_⟩
  · intro s t hidle hfreq hstep
    obtain ⟨c, a, u, hblock, rfl⟩ := step_cases hstep
    have hleft : u.state ≠ .idle := by
      rw [← u.endStep_state, hfreq]
      decide
    obtain ⟨tup, rfl⟩ := accept_of_blockTurn_leaves_idle
      (s := { s with accepted := none, carrier := c, air := a }) hidle hleft hblock
    exact frameBuilt_accept _ tup
  · intro s t hbusy hstep
    obtain ⟨c, a, u, hblock, rfl⟩ := step_cases hstep
    exact blockTurn_keeps_frame_of_busy (s := { s with accepted := none, carrier := c, air := a })
      (t := u) hbusy hblock

/-! ## The word at the op port (20_memory.md R57) -/

/-- A word is driven exactly where the sequencer presents it and reset is not asserted. -/
theorem opWord_eq_some_iff {s : State} {w : OpWord} :
    s.opWord = some w ↔ s.pins.rst = false ∧ s.presentedWord = .ok (some w) := by
  constructor
  · intro h
    unfold State.opWord at h
    split at h
    · next hvalid =>
      have hrst : s.pins.rst = false := by simp_all [State.opValid]
      split at h
      · next hw => exact ⟨hrst, h ▸ hw⟩
      · cases h
    · cases h
  · rintro ⟨hrst, hw⟩
    simp [State.opWord, State.opValid, hrst, hw, state_ne_idle_of_presents hw]

theorem opValid_of_opWord {s : State} {w : OpWord} (h : s.opWord = some w) : s.opValid = true := by
  obtain ⟨hrst, hw⟩ := opWord_eq_some_iff.mp h
  simp [State.opValid, hrst, state_ne_idle_of_presents hw]

theorem blockTurn_of_stall {s : State} {w : OpWord} (hw : s.opWord = some w)
    (hstall : s.pins.opReady = false) : blockTurn s = .next s := by
  obtain ⟨hrst, hpresented⟩ := opWord_eq_some_iff.mp hw
  simp [blockTurn_of_op hrst hpresented, opTurn, hstall]

/-- A stalled step is the service's turn alone: the block holds everything, the op stream included. -/
theorem step_of_stall {s : State} {w : OpWord} (hw : s.opWord = some w)
    (hstall : s.pins.opReady = false) :
    ∃ c a, step s = .next ({ s with accepted := none, carrier := c, air := a } : State).endStep := by
  obtain ⟨c, a, hstep⟩ := step_eq s
  refine ⟨c, a, ?_⟩
  rw [hstep, blockTurn_of_stall (s := { s with accepted := none, carrier := c, air := a }) hw hstall]
  rfl

/-- Settles O39: the stalled step keeps all that the presented word is made of. -/
theorem offeredWordIsStable : Obligations.OfferedWordIsStable := by
  intro s t w hw hstall hstep hrst
  obtain ⟨c, a, hheld⟩ := step_of_stall hw hstall
  obtain rfl : ({ s with accepted := none, carrier := c, air := a } : State).endStep = t := by
    rw [hstep] at hheld
    cases hheld
    rfl
  obtain ⟨-, hpresented⟩ := opWord_eq_some_iff.mp hw
  have hoffered := opWord_eq_some_iff.mpr ⟨hrst, hpresented⟩
  exact ⟨hoffered, opValid_of_opWord hoffered, rfl⟩

end Sys2Proof.Machine

/-! The family of 30_encoding.md: what MODE and RSV of a command word do (R76, R77), and the bits of an op
word that its kind does not use (R84). -/

namespace Sys2Proof.Machine

open Sys2Proof.Safety

/-! ## The row of a command word (30_encoding.md R77) -/

/-- The row that a MODE value selects. -/
def rowOfMode (mode : BitVec 3) (o : CmdOperands) : Instr :=
  match mode.toNat with
  | 0 => .sendRsv0 o
  | 1 => .sendAuto o
  | 2 => .sendHeat o
  | 3 => .sendCool o
  | 4 => .sendDry o
  | 5 => .sendFan o
  | 6 => .sendMaint o
  | _ => .sendRsv7 o

theorem decode_cmd_eq_rowOfMode (w : CmdWord) :
    decode (.cmd w) = rowOfMode (CmdWord.mode w) (CmdWord.operands w) := rfl

theorem decode_cmd_of_mode {w : CmdWord} {mode : BitVec 3} (h : w.extractLsb' 1 3 = mode) :
    decode (.cmd w) = rowOfMode mode (CmdWord.operands w) := by
  rw [decode_cmd_eq_rowOfMode, CmdWord.mode, h]

/-- Settles O5: each MODE value selects its row. -/
theorem modeSelectsTheRow : Obligations.ModeSelectsTheRow := fun _ =>
  ⟨decode_cmd_of_mode, decode_cmd_of_mode, decode_cmd_of_mode, decode_cmd_of_mode,
    decode_cmd_of_mode, decode_cmd_of_mode, decode_cmd_of_mode, decode_cmd_of_mode⟩

/-! ## The reserved bit of a command word (30_encoding.md R76) -/

theorem getLsbD_flipRsv (w : CmdWord) (i : Nat) :
    (w ^^^ 0x0080#16).getLsbD i = (w.getLsbD i ^^ decide (i = 7)) := by
  have hbit : 0x0080#16 = BitVec.twoPow 16 7 := by decide
  simp [hbit, BitVec.getLsbD_twoPow, eq_comm]

/-- A field that leaves bit 7 out reads the same after the flip. -/
theorem extractLsb'_flipRsv (w : CmdWord) {start len : Nat} (h : start + len ≤ 7 ∨ 7 < start) :
    (w ^^^ 0x0080#16).extractLsb' start len = w.extractLsb' start len := by
  refine BitVec.eq_of_getLsbD_eq fun i hi => ?_
  have hother : start + i ≠ 7 := by omega
  simp only [BitVec.getLsbD_extractLsb', getLsbD_flipRsv, hother, decide_false, Bool.xor_false]

theorem mode_flipRsv (w : CmdWord) : CmdWord.mode (w ^^^ 0x0080#16) = CmdWord.mode w :=
  extractLsb'_flipRsv w (.inl (by decide))

theorem operands_flipRsv (w : CmdWord) :
    CmdWord.operands (w ^^^ 0x0080#16) = { CmdWord.operands w with rsv := !w.getLsbD 7 } := by
  have hfan := extractLsb'_flipRsv w (start := 4) (len := 3) (.inl (by decide))
  have htemp := extractLsb'_flipRsv w (start := 8) (len := 8) (.inr (by decide))
  simp only [CmdWord.operands, hfan, htemp, getLsbD_flipRsv]
  simp

/-- No row reads RSV. -/
theorem exec_rowOfMode_rsv (mode : BitVec 3) (o : CmdOperands) (rsv : Bool) (s : State) :
    exec (rowOfMode mode { o with rsv := rsv }) s = exec (rowOfMode mode o) s := by
  unfold rowOfMode
  split <;> rfl

/-- Settles O24: the flip keeps the row and every operand but RSV. -/
theorem reservedBitIgnored : Obligations.ReservedBitIgnored := by
  intro w s
  rw [decode_cmd_eq_rowOfMode, decode_cmd_eq_rowOfMode, mode_flipRsv, operands_flipRsv]
  exact exec_rowOfMode_rsv _ _ _ s

/-! ## The word with its unused bits cleared (30_encoding.md R83, R84)

A mask is itself a packed word, so masking works field by field, and the masked word is packed from the
fields that the kind keeps. -/

theorem and_pack (w : OpWord) (kind : BitVec 2) (b8 : Byte) (a b c : Micros) :
    w &&& OpWord.pack kind b8 a b c =
      OpWord.pack (OpWord.kind w &&& kind) (OpWord.b8 w &&& b8) (OpWord.fieldA w &&& a)
        (OpWord.fieldB w &&& b) (OpWord.fieldC w &&& c) := by
  refine BitVec.eq_of_getLsbD_eq fun i hi => ?_
  simp only [BitVec.getLsbD_and, OpWord.getLsbD_pack, OpWord.kind, OpWord.b8, OpWord.fieldA,
    OpWord.fieldB, OpWord.fieldC, BitVec.getLsbD_extractLsb']
  grind

theorem usedMask_setfreq : usedMask 0 = OpWord.pack (.allOnes 2) (.allOnes 8) 0 0 0 := by decide
theorem usedMask_mark : usedMask 1 = OpWord.pack (.allOnes 2) 0 (.allOnes 32) 0 0 := by decide
theorem usedMask_space : usedMask 2 = OpWord.pack (.allOnes 2) 0 (.allOnes 32) 0 0 := by decide
theorem usedMask_sendbyte :
    usedMask 3 = OpWord.pack (.allOnes 2) (.allOnes 8) (.allOnes 32) (.allOnes 32) (.allOnes 32) := by
  decide

theorem clearUnused_setfreq {w : OpWord} (h : OpWord.kind w = 0) :
    clearUnused w = OpWord.setfreq (OpWord.b8 w) := by
  rw [clearUnused, h, usedMask_setfreq, and_pack, h]
  simp only [OpWord.setfreq, BitVec.ofNat_eq_ofNat, BitVec.and_allOnes, BitVec.and_zero]

theorem clearUnused_mark {w : OpWord} (h : OpWord.kind w = 1) :
    clearUnused w = OpWord.mark (OpWord.fieldA w) := by
  rw [clearUnused, h, usedMask_mark, and_pack, h]
  simp only [OpWord.mark, BitVec.ofNat_eq_ofNat, BitVec.and_allOnes, BitVec.and_zero]

theorem clearUnused_space {w : OpWord} (h : OpWord.kind w = 2) :
    clearUnused w = OpWord.space (OpWord.fieldA w) := by
  rw [clearUnused, h, usedMask_space, and_pack, h]
  simp only [OpWord.space, BitVec.ofNat_eq_ofNat, BitVec.and_allOnes, BitVec.and_zero]

theorem clearUnused_sendbyte {w : OpWord} (h : OpWord.kind w = 3) :
    clearUnused w =
      OpWord.sendbyte (OpWord.b8 w) (OpWord.fieldA w) (OpWord.fieldB w) (OpWord.fieldC w) := by
  rw [clearUnused, h, usedMask_sendbyte, and_pack, h]
  simp only [OpWord.sendbyte, BitVec.ofNat_eq_ofNat, BitVec.and_allOnes]

theorem kind_cases (w : OpWord) :
    OpWord.kind w = 0 ∨ OpWord.kind w = 1 ∨ OpWord.kind w = 2 ∨ OpWord.kind w = 3 := by
  generalize OpWord.kind w = kind
  revert kind
  decide

/-- The operation a word reads as is written as the cleared word. -/
theorem encode_decode_op (w : OpWord) : encode (decode (.op w)) = .op (clearUnused w) := by
  rcases kind_cases w with h | h | h | h
  · simp [clearUnused_setfreq h, decode, decodeOp, h, encode]
  · simp [clearUnused_mark h, decode, decodeOp, h, encode]
  · simp [clearUnused_space h, decode, decodeOp, h, encode]
  · simp [clearUnused_sendbyte h, decode, decodeOp, h, encode]

/-! ## The op words that an instruction is written as -/

/-- An op word reads as the instruction it was written for. -/
theorem decode_of_encode_op {i : Instr} {w : OpWord} (h : encode i = .op w) : decode (.op w) = i := by
  cases i with
  | setfreq khz => cases h; simp [decode, decodeOp, OpWord.setfreq]
  | mark us => cases h; simp [decode, decodeOp, OpWord.mark]
  | space us => cases h; simp [decode, decodeOp, OpWord.space]
  | sendbyte b bm zs os => cases h; simp [decode, decodeOp, OpWord.sendbyte]
  | _ => cases h

theorem pack_reserved (kind : BitVec 2) (b8 : Byte) (a b c : Micros) :
    (OpWord.pack kind b8 a b c).extractLsb' 2 6 = 0 ∧
      (OpWord.pack kind b8 a b c).extractLsb' 16 16 = 0 := by
  constructor <;>
    · refine BitVec.eq_of_getLsbD_eq fun i hi => ?_
      rw [BitVec.getLsbD_extractLsb', OpWord.getLsbD_pack]
      grind

theorem unusedZero_pack {kind : BitVec 2} {b8 : Byte} {a b c : Micros}
    (hsetfreq : kind = 0 → a = 0 ∧ b = 0 ∧ c = 0)
    (hlength : kind = 1 ∨ kind = 2 → b8 = 0 ∧ b = 0 ∧ c = 0) :
    UnusedZero (OpWord.pack kind b8 a b c) := by
  obtain ⟨hlow, hhigh⟩ := pack_reserved kind b8 a b c
  exact ⟨hlow, hhigh, by simpa using hsetfreq, by simpa using hlength⟩

theorem unusedZero_of_encode_op {i : Instr} {w : OpWord} (h : encode i = .op w) : UnusedZero w := by
  cases i with
  | setfreq khz => cases h; exact unusedZero_pack (by simp) (by simp)
  | mark us => cases h; exact unusedZero_pack (by simp) (by simp)
  | space us => cases h; exact unusedZero_pack (by simp) (by simp)
  | sendbyte b bm zs os => cases h; exact unusedZero_pack (by simp) (by simp)
  | _ => cases h

/-! ## The op words that the block emits -/

/-- Every word the sequencer presents is written for an instruction. -/
theorem presentedWord_is_encoded {s : State} {w : OpWord} (h : s.presentedWord = .ok (some w)) :
    ∃ i, encode i = .op w := by
  unfold State.presentedWord at h
  cases hq : s.state with simp only [hq] at h
  | idle | unused n => cases h
  | sFreq => cases h; exact ⟨.setfreq _, rfl⟩
  | sHmark | sGmark | sEmark => cases h; exact ⟨.mark _, rfl⟩
  | sHspace | sGspace | sEspace => cases h; exact ⟨.space _, rfl⟩
  | sData =>
    split at h
    · cases h; exact ⟨.sendbyte _ _ _ _, rfl⟩
    · cases h

theorem exec_decodeCmd_opStream {w : CmdWord} {s t : State} (h : exec (decode (.cmd w)) s = .next t) :
    t.opStream = s.opStream := by
  rcases exec_decodeCmd_cases w s with ⟨-, tup, hexec⟩ | ⟨-, hexec⟩ <;>
    · rw [hexec] at h
      cases h
      rfl

/-- Only a handshake adds to the op stream, and it adds the presented word. -/
theorem blockTurn_opStream {s t : State} (h : blockTurn s = .next t) :
    t.opStream = s.opStream ∨
      ∃ w, s.presentedWord = .ok (some w) ∧ t.opStream = s.opStream ++ [w] := by
  rcases blockTurn_cases h with
    ⟨-, rfl⟩ | ⟨-, -, -, hexec⟩ | ⟨-, -, -, rfl⟩ | ⟨-, -, -, rfl⟩ | ⟨-, -, w, hw, rfl⟩
  · exact .inl rfl
  · exact .inl (exec_decodeCmd_opStream hexec)
  · exact .inl rfl
  · exact .inl rfl
  · obtain ⟨-, -, -, -, hstream, -⟩ := advance_frame (s.transfer w)
    exact .inr ⟨w, hw, hstream⟩

theorem step_opStream {s t : State} (h : step s = .next t) :
    t.opStream = s.opStream ∨
      ∃ w, s.presentedWord = .ok (some w) ∧ t.opStream = s.opStream ++ [w] := by
  obtain ⟨c, a, u, hblock, rfl⟩ := step_cases h
  exact blockTurn_opStream (s := { s with accepted := none, carrier := c, air := a }) (t := u) hblock

/-- Settles O4: an emitted word and a cleared word are both written for an instruction, so their unused
bits are zero and they read as that instruction. -/
theorem unusedOpBitsAreZeroAndIgnored : Obligations.UnusedOpBitsAreZeroAndIgnored := by
  refine ⟨fun s t hstep => ?_, fun w => ?_⟩
  · rcases step_opStream hstep with hkept | ⟨w, hw, hadded⟩
    · exact .inl hkept
    · obtain ⟨i, hi⟩ := presentedWord_is_encoded hw
      exact .inr ⟨w, hadded, unusedZero_of_encode_op hi⟩
  · have hcleared : encode (decode (.op w)) = .op (clearUnused w) := encode_decode_op w
    exact ⟨unusedZero_of_encode_op hcleared, decode_of_encode_op hcleared, hcleared⟩

end Sys2Proof.Machine

/-! The family of 40_command_translation.md: the tuple that each command word is translated to (R100 to
R119), and the accept step that writes it. -/

namespace Sys2Proof.Machine

open Sys2Proof.Safety

/-! ## The accept step -/

/-- The accept step writes the tuple, its frame and the control position, and nothing else. -/
theorem accepts_accept (s : State) (tup : Tuple) : Accepts s (s.accept tup) tup :=
  ⟨rfl, frameBuilt_accept s tup, fun _ hk => Memory.read_storeFrame_outside s.frame _ hk, rfl, rfl, rfl, rfl⟩

/-! ## What the MODE case leaves (40_command_translation.md R102 to R109) -/

/-- The eight values of MODE or FAN, first the two MODE values whose row overrides an operand. -/
theorem bits3_cases (b : BitVec 3) :
    b = 6 ∨ b = 5 ∨ b = 0 ∨ b = 1 ∨ b = 2 ∨ b = 3 ∨ b = 4 ∨ b = 7 := by
  revert b
  decide

/-- The row's work for a MODE value. -/
def modeRow (p : Params) (v : Variant) (mode : BitVec 3) (o : CmdOperands) : ModeRow :=
  match mode.toNat with
  | 0 => rowRsv0 p o
  | 1 => rowAuto p o
  | 2 => rowHeat p o
  | 3 => rowCool p o
  | 4 => rowDry p o
  | 5 => rowFan p o
  | 6 => rowMaint p v o
  | _ => rowRsv7 p o

/-- Whatever its MODE, a command is `sendCommand` with what its row leaves. -/
theorem exec_rowOfMode (mode : BitVec 3) (o : CmdOperands) (s : State) :
    exec (rowOfMode mode o) s = sendCommand o (modeRow s.params s.var mode o) s := by
  rcases bits3_cases mode with rfl | rfl | rfl | rfl | rfl | rfl | rfl | rfl <;> rfl

theorem modeRow_fan (p : Params) (v : Variant) (o : CmdOperands) : modeRow p v 5 o = rowFan p o := rfl

theorem modeRow_maint (p : Params) (v : Variant) (o : CmdOperands) : modeRow p v 6 o = rowMaint p v o := rfl

theorem rowMaint_plain (p : Params) (o : CmdOperands) : rowMaint p .plain o = rowRsv0 p o := rfl

/-- Or-ing HEAT's code with itself leaves HEAT's code (R108). -/
theorem rowMaint_supporting (p : Params) (o : CmdOperands) :
    rowMaint p .supporting o = { rowDefault p o with maint := true, fcmd := .auto } := by
  simp [rowMaint, rowDefault]

/-- Every other row picks M and leaves the caller's operands as they are. -/
theorem modeRow_ordinary (p : Params) {v : Variant} {mode : BitVec 3} (o : CmdOperands)
    (hmaint : ¬(mode = 6 ∧ v = .supporting)) (hfan : mode ≠ 5) :
    ∃ m, modeRow p v mode o = { rowDefault p o with m := m } := by
  rcases bits3_cases mode with rfl | rfl | rfl | rfl | rfl | rfl | rfl | rfl
  · cases v with
    | plain => exact ⟨p.codeModeHeat, rfl⟩
    | supporting => exact absurd ⟨rfl, rfl⟩ hmaint
  · exact absurd rfl hfan
  all_goals exact ⟨_, rfl⟩

/-- Outside maintenance the caller's FAN stands, in the FAN row too (R106, R113). -/
theorem modeRow_fcmd (p : Params) {v : Variant} {mode : BitVec 3} (o : CmdOperands)
    (hmaint : ¬(mode = 6 ∧ v = .supporting)) : (modeRow p v mode o).fcmd = o.fan := by
  by_cases hfan : mode = 5
  · rw [hfan, modeRow_fan]
    rfl
  · obtain ⟨m, hrow⟩ := modeRow_ordinary p o hmaint hfan
    rw [hrow]
    rfl

/-- The MODE case does not read POWER (R110). -/
theorem modeRow_power (p : Params) (v : Variant) (mode : BitVec 3) (o : CmdOperands) (on : Bool) :
    modeRow p v mode { o with power := on } = modeRow p v mode o := by
  unfold modeRow
  split <;> rfl

/-! ## The operand forms (40_command_translation.md R111 to R117) -/

theorem fanCode_ofBits (p : Params) (b : BitVec 3) : fanCode p (FanSel.ofBits b) = fanCodeOfNat p b.toNat := by
  rcases bits3_cases b with rfl | rfl | rfl | rfl | rfl | rfl | rfl | rfl <;> rfl

/-- The fan LUT falls back to AUTO (R112). -/
theorem fanCodeOfNat_unrecognized (p : Params) {n : Nat} (h : 5 ≤ n) : fanCodeOfNat p n = p.codeFanAuto := by
  unfold fanCodeOfNat
  split
  case h_5 => rfl
  all_goals omega

theorem acceptTemp_eq_acceptNat (r : TempRangeReading) (t : Byte) (forced31 : Bool) :
    acceptTemp r t forced31 = acceptNat r t.toNat forced31 := by
  cases r <;> simp [acceptTemp, acceptNat]

theorem validTemp_open (t : Byte) (forced31 : Bool) :
    validTemp .open16to32 t forced31 = if 17 ≤ t.toNat ∧ t.toNat ≤ 31 then t else 23 := by
  have haccept : acceptTemp .open16to32 t forced31 = true ↔ 17 ≤ t.toNat ∧ t.toNat ≤ 31 := by
    simp only [acceptTemp, Bool.and_eq_true, decide_eq_true_eq]
    omega
  simp only [validTemp, haccept, Config.tempDefault]

theorem validTemp_halfOpen (t : Byte) :
    validTemp .halfOpen17to31 t false = if 17 ≤ t.toNat ∧ t.toNat ≤ 30 then t else 23 := by
  have haccept : acceptTemp .halfOpen17to31 t false = true ↔ 17 ≤ t.toNat ∧ t.toNat ≤ 30 := by
    simp only [acceptTemp, Bool.false_or, Bool.and_eq_true, decide_eq_true_eq]
    omega
  simp only [validTemp, haccept, Config.tempDefault]

/-- 17 to 30 are accepted under both readings. -/
theorem validTemp_caller (r : TempRangeReading) {t : Byte} (h : 17 ≤ t.toNat ∧ t.toNat ≤ 30) :
    validTemp r t false = t := by
  cases r with
  | open16to32 => rw [validTemp_open, if_pos (by omega)]
  | halfOpen17to31 => rw [validTemp_halfOpen, if_pos h]

/-- 16 and below are rejected under both readings. -/
theorem validTemp_below (r : TempRangeReading) {t : Byte} (h : t.toNat ≤ 16) :
    validTemp r t false = 23 := by
  cases r with
  | open16to32 => rw [validTemp_open, if_neg (by omega)]
  | halfOpen17to31 => rw [validTemp_halfOpen, if_neg (by omega)]

/-- The FAN row's 31 is accepted under both readings (R116). -/
theorem validTemp_forced (r : TempRangeReading) : validTemp r Config.tempFanForced true = 31 := by
  cases r <;> rfl

/-! ## The tuple of a command word (40_command_translation.md R119) -/

/-- The tuple that the decoded row makes of a command word. -/
def wordTuple (p : Params) (v : Variant) (w : CmdWord) : Tuple :=
  rowTuple p (CmdWord.operands w) (modeRow p v (CmdWord.mode w) (CmdWord.operands w))

theorem exec_decodeCmd_ready (w : CmdWord) {s : State} (hready : s.cmdReady = true) :
    exec (decode (.cmd w)) s = .next (s.accept (wordTuple s.params s.var w)) := by
  rw [decode_cmd_eq_rowOfMode, exec_rowOfMode, sendCommand_ready _ _ hready, wordTuple]

theorem wordTuple_p (p : Params) (v : Variant) (w : CmdWord) :
    (wordTuple p v w).p = if w.getLsbD 0 then p.codePowerOn else p.codePowerOff := rfl

theorem wordTuple_f_maint (p : Params) {w : CmdWord} (hmode : CmdWord.mode w = 6) :
    (wordTuple p .supporting w).f = p.codeFanAuto := by
  rw [wordTuple, hmode, modeRow_maint, rowMaint_supporting]
  rfl

theorem wordTuple_f (p : Params) {v : Variant} {w : CmdWord}
    (hmaint : ¬(CmdWord.mode w = 6 ∧ v = .supporting)) :
    (wordTuple p v w).f = fanCodeOfNat p (w.extractLsb' 4 3).toNat := by
  simp only [wordTuple, rowTuple, modeRow_fcmd p _ hmaint, CmdWord.operands, fanCode_ofBits]

theorem wordTuple_t_fan (p : Params) (v : Variant) {w : CmdWord} (hmode : CmdWord.mode w = 5) :
    (wordTuple p v w).t = 31 := by
  rw [wordTuple, hmode, modeRow_fan]
  exact validTemp_forced p.tempRange

theorem wordTuple_t_ordinary (p : Params) {v : Variant} {w : CmdWord}
    (hmaint : ¬(CmdWord.mode w = 6 ∧ v = .supporting)) (hfan : CmdWord.mode w ≠ 5) :
    (wordTuple p v w).t = validTemp p.tempRange (w.extractLsb' 8 8) false := by
  obtain ⟨m, hrow⟩ := modeRow_ordinary p (CmdWord.operands w) hmaint hfan
  rw [wordTuple, hrow]
  rfl

/-- Settles O22: a ready block accepts every word with the tuple of its row. -/
theorem translatorIsTotal : Obligations.TranslatorIsTotal := fun w _ s _ hready =>
  ⟨_, _, exec_decodeCmd_ready w hready, accepts_accept s _⟩

/-- Settles O17: P is the power LUT of bit 0, in every row. -/
theorem powerBitPicksTheCode : Obligations.PowerBitPicksTheCode :=
  ⟨fun w s hready => ⟨_, exec_decodeCmd_ready w hready, wordTuple_p s.params s.var w⟩,
    fun s hready => ⟨_, exec_decodeCmd_ready _ hready, wordTuple_p s.params s.var 0x1704⟩⟩

/-- Settles O18: the maintenance row overrides FAN, every other row reads the fan LUT. -/
theorem fanFieldPicksTheCode : Obligations.FanFieldPicksTheCode := by
  intro w s hready
  refine ⟨_, exec_decodeCmd_ready w hready, fun ⟨hmode, hvar⟩ => ?_, fun hmaint => ?_⟩
  · rw [State.accept_tuple, hvar, wordTuple_f_maint s.params hmode]
  · rw [State.accept_tuple, wordTuple_f s.params hmaint]
    refine ⟨fun h => ?_, fun h => ?_, fun h => ?_, fun h => ?_, fun h => ?_, fanCodeOfNat_unrecognized _⟩ <;>
      · rw [h]
        rfl

/-- Settles O19: the FAN row forces 31, every other row outside maintenance validates the caller's TEMP. -/
theorem temperatureIsValidated : Obligations.TemperatureIsValidated := by
  intro w s hready hmaint
  refine ⟨_, exec_decodeCmd_ready w hready, wordTuple_t_fan s.params s.var, fun hfan => ?_⟩
  rw [State.accept_tuple, wordTuple_t_ordinary s.params hmaint hfan]
  refine ⟨fun hopen => ?_, fun hhalf => ?_⟩
  · rw [hopen, validTemp_open]
    exact ⟨fun hin => if_pos hin, fun hout => if_neg (by omega)⟩
  · rw [hhalf, validTemp_halfOpen]
    exact ⟨fun hin => if_pos hin, fun hout => if_neg (by omega)⟩

/-! ## The tuple from the raw word's number -/

theorem mode_toNat (w : CmdWord) : (CmdWord.mode w).toNat = wordMode w := by
  simp [CmdWord.mode, wordMode, BitVec.extractLsb'_toNat, Nat.shiftRight_eq_div_pow]

theorem fanBits_toNat (w : CmdWord) : (w.extractLsb' 4 3).toNat = wordFan w := by
  simp [wordFan, BitVec.extractLsb'_toNat, Nat.shiftRight_eq_div_pow]

theorem operands_temp (w : CmdWord) : (CmdWord.operands w).temp = wordTemp w := by
  simp [CmdWord.operands, wordTemp, BitVec.extractLsb', Nat.shiftRight_eq_div_pow]

theorem fanCode_operands (p : Params) (w : CmdWord) :
    fanCode p (CmdWord.operands w).fan = fanCodeOfNat p (wordFan w) := by
  rw [CmdWord.operands, fanCode_ofBits, fanBits_toNat]

theorem powerCode_operands (p : Params) (w : CmdWord) :
    powerCode p (CmdWord.operands w).power = if w.toNat % 2 = 1 then p.codePowerOn else p.codePowerOff := by
  simp [powerCode, CmdWord.operands, BitVec.getLsbD, Nat.testBit_zero]

/-- What R119 does after the MODE case, whatever the row left. -/
theorem rowTuple_operands (p : Params) (w : CmdWord) (r : ModeRow) :
    rowTuple p (CmdWord.operands w) r =
      { p := if w.toNat % 2 = 1 then p.codePowerOn else p.codePowerOff
        m := r.m
        f := fanCode p r.fcmd
        t := if r.maint then 10 else if acceptNat p.tempRange r.tcmd.toNat r.forced31 then r.tcmd else 23 } := by
  rw [rowTuple, powerCode_operands, rowTemp, validTemp, acceptTemp_eq_acceptNat]
  rfl

theorem wordTuple_eq_normalizeWord (p : Params) (v : Variant) (w : CmdWord) :
    wordTuple p v w = normalizeWord p w v := by
  rw [wordTuple, rowTuple_operands]
  unfold normalizeWord
  rw [← mode_toNat, ← operands_temp]
  rcases bits3_cases (CmdWord.mode w) with h | h | h | h | h | h | h | h <;> rw [h]
  · cases v with
    | plain => exact congrArg (Tuple.mk _ _ · _) (fanCode_operands p w)
    | supporting => rfl
  all_goals exact congrArg (Tuple.mk _ _ · _) (fanCode_operands p w)

/-- Settles O21: every row's tuple is the translator's, MODE by MODE. -/
theorem rowsComputeNormalize : Obligations.RowsComputeNormalize := by
  intro w s hready
  rw [exec_decodeCmd_ready w hready, wordTuple_eq_normalizeWord]

/-! ## The rows one by one (40_command_translation.md R102 to R109) -/

/-- A row runs where its MODE value selects it and what it leaves makes the tuple. -/
theorem rowRuns_of_tuple {mk : CmdOperands → Instr} {mode : BitVec 3}
    {tup : Params → Variant → CmdOperands → Tuple} (hmk : ∀ o, rowOfMode mode o = mk o)
    (htup : ∀ p v o, rowTuple p o (modeRow p v mode o) = tup p v o) : RowRuns mk mode tup := by
  refine ⟨fun w hmode => ?_, fun o s hready => ⟨_, ?_, accepts_accept s _⟩⟩
  · rw [decode_cmd_of_mode hmode, hmk]
  · rw [← hmk, exec_rowOfMode, sendCommand_ready _ _ hready, htup]

/-- An example word of a row. -/
theorem wordGives_of_rowRuns {mk : CmdOperands → Instr} {mode : BitVec 3}
    {rowTup : Params → Variant → CmdOperands → Tuple} {tup : Params → Tuple} {w : CmdWord} {s : State}
    (hrow : RowRuns mk mode rowTup) (hmode : w.extractLsb' 1 3 = mode)
    (htup : rowTup s.params s.var (CmdWord.operands w) = tup s.params) : WordGives w tup s := by
  intro hready
  obtain ⟨hdecode, hexec⟩ := hrow
  obtain ⟨t, ht, htuple, -⟩ := hexec (CmdWord.operands w) s hready
  exact ⟨t, by rw [hdecode w hmode, ht], htuple.trans htup⟩

/-- The tuple of a row that only picks M, as code: FAN and TEMP are the caller's. -/
def callerTuple (code : Params → Byte) (p : Params) (o : CmdOperands) : Tuple :=
  ⟨powerCode p o.power, code p, fanCode p o.fan, validTemp p.tempRange o.temp false⟩

theorem rowTuple_caller (code : Params → Byte) (p : Params) (o : CmdOperands) :
    rowTuple p o { rowDefault p o with m := code p } = callerTuple code p o := rfl

theorem callerTuple_of_accepted (code : Params → Byte) (p : Params) {o : CmdOperands}
    (htemp : 17 ≤ o.temp.toNat ∧ o.temp.toNat ≤ 30) :
    callerTuple code p o = ⟨powerCode p o.power, code p, fanCode p o.fan, o.temp⟩ := by
  rw [callerTuple, validTemp_caller p.tempRange htemp]

theorem callerTuple_of_below (code : Params → Byte) (p : Params) {o : CmdOperands}
    (htemp : o.temp.toNat ≤ 16) :
    callerTuple code p o = ⟨powerCode p o.power, code p, fanCode p o.fan, 23⟩ := by
  rw [callerTuple, validTemp_below p.tempRange htemp]

/-- An example word of such a row with a TEMP that every reading accepts. -/
theorem wordGives_caller {mk : CmdOperands → Instr} {mode : BitVec 3} {code : Params → Byte} {w : CmdWord}
    (s : State) (hrow : RowRuns mk mode fun p _ o => callerTuple code p o) (hmode : w.extractLsb' 1 3 = mode)
    (htemp : 17 ≤ (CmdWord.operands w).temp.toNat ∧ (CmdWord.operands w).temp.toNat ≤ 30) :
    WordGives w (fun p => ⟨powerCode p (CmdWord.operands w).power, code p,
      fanCode p (CmdWord.operands w).fan, (CmdWord.operands w).temp⟩) s :=
  wordGives_of_rowRuns hrow hmode (callerTuple_of_accepted code s.params htemp)

theorem rowRuns_sendAuto : RowRuns .sendAuto 1 fun p _ o => callerTuple Params.codeModeAuto p o :=
  rowRuns_of_tuple (fun _ => rfl) fun p _ o => rowTuple_caller Params.codeModeAuto p o

theorem rowRuns_sendHeat : RowRuns .sendHeat 2 fun p _ o => callerTuple Params.codeModeHeat p o :=
  rowRuns_of_tuple (fun _ => rfl) fun p _ o => rowTuple_caller Params.codeModeHeat p o

theorem rowRuns_sendCool : RowRuns .sendCool 3 fun p _ o => callerTuple Params.codeModeCool p o :=
  rowRuns_of_tuple (fun _ => rfl) fun p _ o => rowTuple_caller Params.codeModeCool p o

theorem rowRuns_sendDry : RowRuns .sendDry 4 fun p _ o => callerTuple Params.codeModeDry p o :=
  rowRuns_of_tuple (fun _ => rfl) fun p _ o => rowTuple_caller Params.codeModeDry p o

theorem rowRuns_sendRsv0 : RowRuns .sendRsv0 0 fun p _ o => callerTuple Params.codeModeHeat p o :=
  rowRuns_of_tuple (fun _ => rfl) fun p _ o => rowTuple_caller Params.codeModeHeat p o

theorem rowRuns_sendRsv7 : RowRuns .sendRsv7 7 fun p _ o => callerTuple Params.codeModeHeat p o :=
  rowRuns_of_tuple (fun _ => rfl) fun p _ o => rowTuple_caller Params.codeModeHeat p o

theorem rowRuns_sendFan :
    RowRuns .sendFan 5 fun p _ o => ⟨powerCode p o.power, p.codeModeCool, fanCode p o.fan, 31⟩ := by
  refine rowRuns_of_tuple (fun _ => rfl) fun p _ o => ?_
  rw [modeRow_fan]
  exact congrArg (Tuple.mk _ _ _) (validTemp_forced p.tempRange)

/-- The maintenance row's tuple on each variant (R107). -/
def maintTuple (p : Params) (v : Variant) (o : CmdOperands) : Tuple :=
  match v with
  | .supporting => ⟨powerCode p o.power, p.codeModeHeat, p.codeFanAuto, 10⟩
  | .plain => callerTuple Params.codeModeHeat p o

theorem rowRuns_sendMaint : RowRuns .sendMaint 6 maintTuple := by
  refine rowRuns_of_tuple (fun _ => rfl) fun p v o => ?_
  rw [modeRow_maint]
  cases v with
  | supporting =>
    rw [rowMaint_supporting]
    rfl
  | plain =>
    rw [rowMaint_plain]
    rfl

/-- The unrecognized rows keep the M they start with, which is the code that HEAT writes (R103, R109). -/
theorem exec_unrecognized_eq_sendHeat (o : CmdOperands) (s : State) :
    exec (.sendRsv0 o) s = exec (.sendHeat o) s ∧ exec (.sendRsv7 o) s = exec (.sendHeat o) s :=
  ⟨rfl, rfl⟩

theorem exec_sendMaint_plain (o : CmdOperands) {s : State} (hvar : s.var = .plain) :
    exec (.sendMaint o) s = exec (.sendRsv0 o) s :=
  calc exec (.sendMaint o) s
      = sendCommand o (rowMaint s.params s.var o) s := rfl
    _ = sendCommand o (rowRsv0 s.params o) s := by rw [hvar, rowMaint_plain]

/-- Settles O10: AUTO's row picks M alone. -/
theorem sendAutoRow : Obligations.SendAutoRow :=
  ⟨rowRuns_sendAuto, fun s => wordGives_caller s rowRuns_sendAuto (by decide) (by decide)⟩

/-- Settles O11: HEAT's row picks M alone, the code that the unrecognized rows start with. -/
theorem sendHeatRow : Obligations.SendHeatRow :=
  ⟨rowRuns_sendHeat, exec_unrecognized_eq_sendHeat, fun s => wordGives_caller s rowRuns_sendHeat (by decide) (by decide)⟩

/-- Settles O12: COOL's row picks M alone, so TEMP is validated and not forced. -/
theorem sendCoolRow : Obligations.SendCoolRow :=
  ⟨rowRuns_sendCool, fun s => wordGives_caller s rowRuns_sendCool (by decide) (by decide)⟩

/-- Settles O13: DRY's row picks M alone. -/
theorem sendDryRow : Obligations.SendDryRow :=
  ⟨rowRuns_sendDry, fun s => wordGives_caller s rowRuns_sendDry (by decide) (by decide)⟩

/-- Settles O14: the example's TEMP is 200, which no reading accepts. -/
theorem sendFanRow : Obligations.SendFanRow :=
  ⟨rowRuns_sendFan, fun _ => wordGives_of_rowRuns rowRuns_sendFan (by decide) rfl⟩

/-- Settles O15: the maintenance row, variant by variant. -/
theorem sendMaintRow : Obligations.SendMaintRow := by
  refine ⟨rowRuns_sendMaint, fun o s => exec_sendMaint_plain o, fun s hvar => ?_, fun s hvar => ?_⟩
  · refine wordGives_of_rowRuns rowRuns_sendMaint (by decide) ?_
    rw [hvar]
    rfl
  · refine wordGives_of_rowRuns rowRuns_sendMaint (by decide) ?_
    rw [hvar]
    exact callerTuple_of_accepted _ s.params (by decide)

/-- Settles O16: the example's TEMP is 16, which no reading accepts. -/
theorem unrecognizedModeRows : Obligations.UnrecognizedModeRows :=
  ⟨rowRuns_sendRsv0, rowRuns_sendRsv7, exec_unrecognized_eq_sendHeat, fun s =>
    wordGives_of_rowRuns rowRuns_sendRsv7 (by decide) (callerTuple_of_below _ s.params (by decide))⟩

/-! ## POWER flipped (40_command_translation.md R110) -/

theorem mode_flipPower (w : CmdWord) : CmdWord.mode (w ^^^ 0x0001#16) = CmdWord.mode w := by
  have hmask : (0x0001#16).extractLsb' 1 3 = 0#3 := by decide
  rw [CmdWord.mode, BitVec.extractLsb'_xor, hmask, BitVec.xor_zero, CmdWord.mode]

theorem operands_flipPower (w : CmdWord) :
    CmdWord.operands (w ^^^ 0x0001#16) = { CmdWord.operands w with power := !w.getLsbD 0 } := by
  have hfan : (0x0001#16).extractLsb' 4 3 = 0#3 := by decide
  have htemp : (0x0001#16).extractLsb' 8 8 = 0#8 := by decide
  simp [CmdWord.operands, BitVec.extractLsb'_xor, hfan, htemp]

theorem wordTuple_flipPower (p : Params) (v : Variant) (w : CmdWord) :
    wordTuple p v (w ^^^ 0x0001#16) = { wordTuple p v w with p := powerCode p (!w.getLsbD 0) } := by
  rw [wordTuple, mode_flipPower, operands_flipPower, modeRow_power]
  rfl

theorem powerCode_not (p : Params) (on : Bool) :
    powerCode p (!on) = if on then p.codePowerOff else p.codePowerOn := by
  cases on <;> rfl

/-! P reaches byte 5 in the field placement and byte 17 through the checksum, and no other byte. -/

theorem getElem_placeFields_setP (tup : Tuple) (b : Byte) (f : Frame) {k : Nat} (hk : k < 18) (h5 : k ≠ 5) :
    (placeFields { tup with p := b } f)[k] = (placeFields tup f)[k] := by
  simp [placeFields, Vector.getElem_set, h5.symm]

theorem getElem_encodeTemp_congr (p : Params) (t : Byte) {f g : Frame} {k : Nat} (hk : k < 18)
    (h : f[k] = g[k]) : (encodeTemp p t f)[k] = (encodeTemp p t g)[k] := by
  unfold encodeTemp
  split <;> simp [Vector.getElem_set, h]

theorem getElem_build_setP (p : Params) (tup : Tuple) (b : Byte) {k : Nat} (hk : k < 18) (h5 : k ≠ 5)
    (h17 : k ≠ 17) : (build p { tup with p := b })[k] = (build p tup)[k] := by
  rw [getElem_build_of_ne p _ hk h17, getElem_build_of_ne p _ hk h17]
  exact getElem_encodeTemp_congr p tup.t hk (getElem_placeFields_setP tup b _ hk h5)

/-- Two frames that agree at k leave the same byte there when stored over the same FRAME. -/
theorem read_storeFrame_congr (m : Memory) {f g : Frame} {k : Nat} (h : ∀ hk : k < 18, f[k] = g[k]) :
    Memory.read (Memory.storeFrame m f) k = Memory.read (Memory.storeFrame m g) k := by
  by_cases hk : k < 18
  · exact (Memory.read_storeFrame m f ⟨k, hk⟩).trans
      ((congrArg some (h hk)).trans (Memory.read_storeFrame m g ⟨k, hk⟩).symm)
  · rw [Memory.read_storeFrame_outside m f (by omega), Memory.read_storeFrame_outside m g (by omega)]

/-- Settles O23: the flip changes P alone in the tuple, and P reaches bytes 5 and 17 alone. -/
theorem powerAndModeIndependent : Obligations.PowerAndModeIndependent := by
  intro w s hready
  have hflip := wordTuple_flipPower s.params s.var w
  refine ⟨_, _, exec_decodeCmd_ready w hready, exec_decodeCmd_ready _ hready,
    wordTuple_p s.params s.var w, ?_, ?_, fun k h5 h17 => ?_⟩
  · rw [State.accept_tuple, hflip]
    exact powerCode_not s.params (w.getLsbD 0)
  · simp only [State.accept_tuple, hflip]
  · rw [State.accept_frame, State.accept_frame, hflip]
    exact read_storeFrame_congr s.frame fun hk => getElem_build_setP s.params _ _ hk h5 h17

end Sys2Proof.Machine

/-! The family of 41_frame_builder.md: what the build puts in each byte (R147, R149), the temperature
encoder's table (R143) and the checksum in closed form (R150). -/

namespace Sys2Proof.Machine

open Sys2Proof.Safety

/-- Settles O27. -/
theorem buildMakesTheFrame : Obligations.BuildMakesTheFrame := isFrameOf_build

/-! ## The encoded temperature (41_frame_builder.md R142, R143) -/

theorem build_bytes_of_maint (p : Params) {tup : Tuple} (ht : tup.t = 10) :
    (build p tup)[7] = 0x00 ∧ (build p tup)[15] = 0x20 := by
  obtain ⟨-, -, -, -, hmaint, -, -⟩ := isFrameOf_build p tup
  exact hmaint ht

/-- From 16 on the subtraction of TEMP_OFFSET does not wrap. -/
theorem build_bytes_of_ge (p : Params) {tup : Tuple} (ht : 16 ≤ tup.t.toNat) :
    (build p tup)[7].toNat = tup.t.toNat - 16 ∧ (build p tup)[15] = 0x40 := by
  obtain ⟨-, -, -, -, -, hnormal, -⟩ := isFrameOf_build p tup
  obtain ⟨h7, h15⟩ := hnormal (by bv_omega)
  exact ⟨by rw [h7]; bv_omega, h15⟩

theorem highNibble_eq_zero_of_lt {b : Byte} (h : b.toNat < 16) : b.extractLsb' 4 4 = 0 := by
  apply BitVec.eq_of_toNat_eq
  simp [BitVec.extractLsb'_toNat, Nat.shiftRight_eq_div_pow, Nat.div_eq_of_lt h]

/-- Settles O28: the maintenance row, the normal rows, and byte 7 below 16 in all of them. -/
theorem temperatureEncoderTable : Obligations.TemperatureEncoderTable := by
  refine fun p tup => ⟨build_bytes_of_maint p, fun d ht => ?_, fun ht => highNibble_eq_zero_of_lt ?_⟩
  · obtain ⟨h7, h15⟩ := build_bytes_of_ge p (tup := tup) (by omega)
    exact ⟨by omega, h15⟩
  · rcases ht with hmaint | ⟨hlow, hhigh⟩
    · obtain ⟨h7, -⟩ := build_bytes_of_maint p hmaint
      rw [h7]
      decide
    · obtain ⟨h7, -⟩ := build_bytes_of_ge p (tup := tup) (by omega)
      omega

/-! ## The checksum (41_frame_builder.md R145, R150) -/

theorem take_toList_frame (f : Frame) :
    f.toList.take 17 = [f[0], f[1], f[2], f[3], f[4], f[5], f[6], f[7], f[8], f[9], f[10], f[11], f[12],
      f[13], f[14], f[15], f[16]] := by
  obtain ⟨⟨bytes⟩, hsize⟩ := f
  have hlen : bytes.length = 18 := hsize
  simp [List.take_succ_eq_append_getElem, hlen]

/-- Settles O29: the summed bytes are P, M, F, the two encoded bytes and twelve of the template's, in
another order. -/
theorem checksumClosedForm : Obligations.ChecksumClosedForm := by
  intro p tup
  obtain ⟨-, hp, hm, hf, -, -, hsum⟩ := isFrameOf_build p tup
  rw [hsum, take_toList_frame, hp, hm, hf]
  simp (disch := decide) only [getElem_build_of_template, sum8]
  ac_rfl

end Sys2Proof.Machine

/-! The family of 42_pulse_sequencer.md: what each op asks of the service (R188, R191 to R194), the time
one command takes on the air (R190), and the op stream of one whole command (R185, R195). -/

namespace Sys2Proof.Machine

open Sys2Proof.Safety

/-! ## The operations of the service (42_pulse_sequencer.md R188, R191 to R194) -/

theorem exec_setfreq (khz : Byte) (s : State) : exec (.setfreq khz) s = .next (s.setCarrier khz) := rfl

theorem exec_mark (us : Micros) (s : State) : exec (.mark us) s = .next (s.emit [.mark us]) := rfl

theorem exec_sendbyte (b : Byte) (bm zs os : Micros) (s : State) :
    exec (.sendbyte b bm zs os) s = .next (s.emit (bytePulses s.params.bitOrder b bm zs os)) := rfl

/-- Settles O42. -/
theorem markEmitsTheCarrier : Obligations.MarkEmitsTheCarrier := exec_mark

theorem setCarrier_of_in_force {s : State} {khz : Byte} (h : s.carrier = some khz) :
    s.setCarrier khz = s := by
  rw [State.setCarrier, ← h]

/-- The one SETFREQ among the words the sequencer presents is S_FREQ's. -/
theorem setfreq_of_presentedWord {s : State} {w : OpWord} {khz : Byte}
    (hw : s.presentedWord = .ok (some w)) (hdecode : decode (.op w) = .setfreq khz) : khz = 40 := by
  have not_setfreq : ∀ {i : Instr}, encode i = .op w → i = .setfreq khz := fun hi =>
    (decode_of_encode_op hi).symm.trans hdecode
  unfold State.presentedWord at hw
  cases hq : s.state with simp only [hq] at hw
  | idle | unused n => cases hw
  | sFreq => cases hw; cases not_setfreq (i := .setfreq 40) rfl; rfl
  | sHmark | sGmark | sEmark => cases hw; cases not_setfreq (i := .mark _) rfl
  | sHspace | sGspace | sEspace => cases hw; cases not_setfreq (i := .space _) rfl
  | sData =>
    split at hw
    · cases hw; cases not_setfreq (i := .sendbyte _ _ _ _) rfl
    · cases hw

/-- Settles O41: SETFREQ is the update of the carrier, and only S_FREQ presents one. -/
theorem setfreqSetsTheCarrier : Obligations.SetfreqSetsTheCarrier := by
  refine ⟨exec_setfreq, fun khz s hforce => ?_, fun s w khz hw => ?_⟩
  · rw [exec_setfreq, setCarrier_of_in_force hforce]
  · obtain ⟨-, hpresented⟩ := opWord_eq_some_iff.mp hw
    exact setfreq_of_presentedWord hpresented

theorem length_bytePulses (order : BitOrder) (b : Byte) (bm zs os : Micros) :
    (bytePulses order b bm zs os).length = 16 := rfl

/-- Pair j of a byte stands at 2j and 2j + 1. -/
theorem getElem?_bytePulses (order : BitOrder) (b : Byte) (bm zs os : Micros) (j : Fin 8) :
    (bytePulses order b bm zs os)[2 * j.val]? = some (.mark bm) ∧
      (bytePulses order b bm zs os)[2 * j.val + 1]? =
        some (.space (if b.getLsbD (bitAt order j.val) then os else zs)) := by
  fin_cases j <;> exact ⟨rfl, rfl⟩

/-- Settles O44: pair j carries the bit that BIT_ORDER gives it. -/
theorem sendbyteEmitsTheBits : Obligations.SendbyteEmitsTheBits := by
  intro b bm zs os s
  refine ⟨_, exec_sendbyte b bm zs os s, length_bytePulses _ b bm zs os, fun j => ?_⟩
  obtain ⟨hmark, hspace⟩ := getElem?_bytePulses s.params.bitOrder b bm zs os j
  refine ⟨hmark, fun hlsb => ?_, fun hmsb => ?_⟩
  · rw [hspace, hlsb, bitAt]
  · rw [hspace, hmsb, bitAt]

/-! ## The nominal air time (42_pulse_sequencer.md R190) -/

theorem airTime_append (xs ys : List Pulse) : airTime (xs ++ ys) = airTime xs + airTime ys := by
  induction xs with
  | nil => simp [airTime]
  | cons x xs ih => simp only [List.cons_append, airTime, ih, Nat.add_assoc]

theorem streamPulses_append (order : BitOrder) (ws vs : List OpWord) :
    streamPulses order (ws ++ vs) = streamPulses order ws ++ streamPulses order vs :=
  List.flatMap_append

/-- The time of a stream is that of its first op and of the rest. -/
theorem airTime_of_encode_cons (order : BitOrder) {i : Instr} {w : OpWord} (h : encode i = .op w)
    (ws : List OpWord) :
    airTime (streamPulses order (w :: ws)) =
      airTime (instrPulses order i) + airTime (streamPulses order ws) := by
  rw [streamPulses, List.flatMap_cons, decode_of_encode_op h, airTime_append, streamPulses]

theorem airTime_setfreq_cons (order : BitOrder) (khz : Byte) (ws : List OpWord) :
    airTime (streamPulses order (OpWord.setfreq khz :: ws)) = airTime (streamPulses order ws) :=
  (airTime_of_encode_cons order (i := .setfreq khz) rfl ws).trans (Nat.zero_add _)

theorem airTime_mark_cons (order : BitOrder) (us : Micros) (ws : List OpWord) :
    airTime (streamPulses order (OpWord.mark us :: ws)) = us.toNat + airTime (streamPulses order ws) :=
  airTime_of_encode_cons order (i := .mark us) rfl ws

theorem airTime_space_cons (order : BitOrder) (us : Micros) (ws : List OpWord) :
    airTime (streamPulses order (OpWord.space us :: ws)) = us.toNat + airTime (streamPulses order ws) :=
  airTime_of_encode_cons order (i := .space us) rfl ws

theorem airTime_sendbyte_cons (order : BitOrder) (b : Byte) (bm zs os : Micros) (ws : List OpWord) :
    airTime (streamPulses order (OpWord.sendbyte b bm zs os :: ws)) =
      airTime (bytePulses order b bm zs os) + airTime (streamPulses order ws) :=
  airTime_of_encode_cons order (i := .sendbyte b bm zs os) rfl ws

theorem airTime_streamPulses_nil (order : BitOrder) : airTime (streamPulses order []) = 0 := rfl

theorem airTime_streamPulses_append (order : BitOrder) (ws vs : List OpWord) :
    airTime (streamPulses order (ws ++ vs)) =
      airTime (streamPulses order ws) + airTime (streamPulses order vs) := by
  rw [streamPulses, List.flatMap_append, airTime_append, streamPulses, streamPulses]

/-- A pair takes a mark and a zero space, and a 1 bit exchanges the zero space for a one space; said
without subtraction. -/
theorem airTime_bitPair (order : BitOrder) (b : Byte) (bm zs os : Micros) (j : Nat) :
    airTime (bitPair order b bm zs os j) + (b.getLsbD (bitAt order j)).toNat * zs.toNat =
      bm.toNat + zs.toNat + (b.getLsbD (bitAt order j)).toNat * os.toNat := by
  simp only [bitPair, airTime, Pulse.us]
  cases b.getLsbD (bitAt order j) with
  | false => simp
  | true => simp; omega

/-- The same over any pairs. -/
theorem airTime_pairs (order : BitOrder) (b : Byte) (bm zs os : Micros) (js : List Nat) :
    airTime (js.flatMap (bitPair order b bm zs os)) +
        (js.map fun j => (b.getLsbD (bitAt order j)).toNat).sum * zs.toNat =
      js.length * (bm.toNat + zs.toNat) +
        (js.map fun j => (b.getLsbD (bitAt order j)).toNat).sum * os.toNat := by
  induction js with
  | nil => simp [airTime]
  | cons j js ih =>
    have hpair := airTime_bitPair order b bm zs os j
    simp only [List.flatMap_cons, airTime_append, List.map_cons, List.sum_cons, List.length_cons,
      Nat.add_mul, Nat.one_mul]
    omega

/-- Either bit order sends every bit of the byte once. -/
theorem sum_bits_eq_popcount (order : BitOrder) (b : Byte) :
    ([0, 1, 2, 3, 4, 5, 6, 7].map fun j => (b.getLsbD (bitAt order j)).toNat).sum = popcount b := by
  cases order with
  | lsbFirst => rfl
  | msbFirst => exact List.sum_reverse ([0, 1, 2, 3, 4, 5, 6, 7].map fun i => (b.getLsbD i).toNat)

theorem airTime_bytePulses (order : BitOrder) (b : Byte) (bm zs os : Micros) :
    airTime (bytePulses order b bm zs os) + popcount b * zs.toNat =
      8 * (bm.toNat + zs.toNat) + popcount b * os.toNat := by
  rw [← sum_bits_eq_popcount order b]
  exact airTime_pairs order b bm zs os _

theorem popcount_le (b : Byte) : popcount b ≤ 8 := by
  have hbits := List.sum_le_card_nsmul ([0, 1, 2, 3, 4, 5, 6, 7].map fun i => (b.getLsbD i).toNat) 1
    (by simp [Bool.toNat_le])
  simpa [popcount] using hbits

theorem airTime_sendbytes (order : BitOrder) (bm zs os : Micros) (bs : List Byte) :
    airTime (streamPulses order (bs.map fun b => OpWord.sendbyte b bm zs os)) +
        (bs.map popcount).sum * zs.toNat =
      bs.length * (8 * (bm.toNat + zs.toNat)) + (bs.map popcount).sum * os.toNat := by
  induction bs with
  | nil => simp [airTime_streamPulses_nil]
  | cons b bs ih =>
    have hbyte := airTime_bytePulses order b bm zs os
    simp only [List.map_cons, airTime_sendbyte_cons, List.sum_cons, List.length_cons, Nat.add_mul,
      Nat.one_mul]
    omega

theorem framePopcount_le (f : Frame) : framePopcount f ≤ 144 := by
  have h := List.sum_le_card_nsmul (f.toList.map popcount) 8 (by simp [popcount_le])
  simpa [framePopcount] using h

theorem airTime_burst (p : Params) (f : Frame) (order : BitOrder) :
    airTime (streamPulses order (burstWords p f)) + framePopcount f * p.zeroSpaceUs.toNat =
      p.hdrMarkUs.toNat + p.hdrSpaceUs.toNat + 144 * (p.bitMarkUs.toNat + p.zeroSpaceUs.toNat) +
        framePopcount f * p.oneSpaceUs.toNat := by
  have hbytes := airTime_sendbytes order p.bitMarkUs p.zeroSpaceUs p.oneSpaceUs f.toList
  rw [Vector.length_toList, ← framePopcount] at hbytes
  rw [burstWords, airTime_mark_cons, airTime_space_cons]
  omega

/-- A command takes two bursts, the gap's mark and space, and the end mark. -/
theorem airTime_commandStream (p : Params) (f : Frame) (order : BitOrder) :
    airTime (streamPulses order (commandStream p f)) =
      2 * airTime (streamPulses order (burstWords p f)) + 2 * p.bitMarkUs.toNat + p.msgSpaceUs.toNat := by
  have hend : (0 : Micros).toNat = 0 := rfl
  simp only [commandStream, airTime_streamPulses_append, airTime_setfreq_cons, airTime_mark_cons,
    airTime_space_cons, airTime_streamPulses_nil, hend]
  omega

/-- Settles O50: a burst's 144 bits are 1 bits and 0 bits, so what airTime_burst adds for the 1 bits can
be taken off the zero spaces. -/
theorem nominalAirTime : Obligations.NominalAirTime := by
  intro p f order
  have hburst := airTime_burst p f order
  have hbits := framePopcount_le f
  have hzeros : (288 - 2 * framePopcount f) * p.zeroSpaceUs.toNat +
      2 * (framePopcount f * p.zeroSpaceUs.toNat) = 288 * p.zeroSpaceUs.toNat := by
    rw [← Nat.mul_assoc, ← Nat.add_mul, Nat.sub_add_cancel (by omega)]
  rw [airTime_commandStream, Nat.mul_assoc 2 (framePopcount f)]
  omega

/-! ## The command's op stream, position by position (42_pulse_sequencer.md R185) -/

theorem length_burstWords (p : Params) (f : Frame) : (burstWords p f).length = 20 := by
  simp [burstWords]

theorem getElem?_burstWords_data (p : Params) (f : Frame) (k : Fin 18) :
    (burstWords p f)[2 + k.val]? =
      some (OpWord.sendbyte f[k] p.bitMarkUs p.zeroSpaceUs p.oneSpaceUs) := by
  simp [burstWords, Nat.add_comm 2]

theorem length_commandStream (p : Params) (f : Frame) : (commandStream p f).length = 45 := by
  simp [commandStream, length_burstWords]

/-- Burst b takes the 20 positions from 1 + 22b on. -/
theorem getElem?_commandStream_burst (p : Params) (f : Frame) (b : BitVec 1) {j : Nat} (hj : j < 20) :
    (commandStream p f)[1 + 22 * b.toNat + j]? = (burstWords p f)[j]? := by
  have hlen := length_burstWords p f
  obtain hb | hb : b.toNat = 0 ∨ b.toNat = 1 := by omega
  · have hpos : 1 + 22 * b.toNat + j = j + 1 := by omega
    simp [commandStream, hpos, List.getElem?_append, hlen, hj]
  · have hpos : 1 + 22 * b.toNat + j = 20 + (j + 2) + 1 := by omega
    simp [commandStream, hpos, List.getElem?_append, hlen, hj]

theorem getElem?_commandStream_gap (p : Params) (f : Frame) :
    (commandStream p f)[21]? = some (OpWord.mark p.bitMarkUs) ∧
      (commandStream p f)[22]? = some (OpWord.space p.msgSpaceUs) := by
  simp [commandStream, length_burstWords]

theorem getElem?_commandStream_end (p : Params) (f : Frame) :
    (commandStream p f)[43]? = some (OpWord.mark p.bitMarkUs) ∧
      (commandStream p f)[44]? = some (OpWord.space 0) := by
  simp [commandStream, length_burstWords]

/-- Inside a command the sequencer presents the word of the command's stream at the block's position. -/
theorem presentedWord_eq_stream {s : State} {f : Frame} (hinv : ReachableInv s) (hholds : Holds s.frame f)
    (hbusy : s.state ≠ .idle) :
    ∃ w, s.presentedWord = .ok (some w) ∧ (commandStream s.params f)[s.position]? = some w := by
  obtain ⟨hused, hidx, -⟩ := hinv
  obtain ⟨hgmark, hgspace⟩ := getElem?_commandStream_gap s.params f
  obtain ⟨hemark, hespace⟩ := getElem?_commandStream_end s.params f
  have burst {j : Nat} (hj : j < 20) := getElem?_commandStream_burst s.params f s.burst hj
  cases hq : s.state with simp only [State.presentedWord, State.position, hq]
  | idle => exact absurd hq hbusy
  | unused n => exact absurd hq (hused n)
  | sFreq => exact ⟨_, rfl, rfl⟩
  | sHmark => exact ⟨_, rfl, burst (j := 0) (by decide)⟩
  | sHspace =>
    have hpos : 2 + 22 * s.burst.toNat = 1 + 22 * s.burst.toNat + 1 := by omega
    rw [hpos]
    exact ⟨_, rfl, burst (j := 1) (by decide)⟩
  | sData =>
    have hpos : 3 + 22 * s.burst.toNat + s.idx.toNat = 1 + 22 * s.burst.toNat + (2 + s.idx.toNat) := by omega
    let k : Fin 18 := ⟨s.idx.toNat, by omega⟩
    have hfetch : Memory.fetch s.frame s.idx.toNat = .ok f[k] := Memory.fetch_of_holds hholds k
    rw [hpos, hfetch, burst (by omega)]
    exact ⟨_, rfl, getElem?_burstWords_data s.params f k⟩
  | sGmark => exact ⟨_, rfl, hgmark⟩
  | sGspace => exact ⟨_, rfl, hgspace⟩
  | sEmark => exact ⟨_, rfl, hemark⟩
  | sEspace => exact ⟨_, rfl, hespace⟩

/-! ## One handshake inside a command -/

theorem advanceData_inv {s : State} (hdata : s.state = .sData) (hinv : ReachableInv s) :
    ReachableInv s.advanceData := by
  obtain ⟨-, hidx, -, -, -, hbuilt⟩ := hinv
  have hframe : FrameBuilt s.params s.tuple s.frame := hbuilt (by simp [hdata])
  by_cases hlt : s.idx.toNat < 17
  · rw [advanceData_of_lt hlt]
    have hnext : (s.idx.toNat + 1) % 32 ≤ 17 := by omega
    simp [ReachableInv, hdata, hnext, hframe]
  · have hlast : s.idx = 17 := by bv_omega
    by_cases hburst : s.burst = 0
    · rw [advanceData_of_first_burst hlt hburst]
      simp [ReachableInv, hburst, hlast, hframe]
    · have hsecond : s.burst = 1 := by bv_omega
      rw [advanceData_of_second_burst hlt hburst]
      simp [ReachableInv, hsecond, hlast, hframe]

theorem advance_inv {s : State} (hinv : ReachableInv s) (hbusy : s.state ≠ .idle) :
    ReachableInv s.advance := by
  have ⟨hused, hidx, _, hburst1, hidx17, hbuilt⟩ := hinv
  have hframe : FrameBuilt s.params s.tuple s.frame := hbuilt hbusy
  cases hq : s.state with
  | idle => exact absurd hq hbusy
  | unused n => exact absurd hq (hused n)
  | sData =>
    have hadv : s.advance = s.advanceData := by simp [State.advance, hq]
    rw [hadv]
    exact advanceData_inv hq hinv
  | sGmark =>
    have hlast : s.idx = 17 := hidx17 (.inl hq)
    simp [ReachableInv, State.advance, hq, hlast, hframe]
  | sEmark =>
    have hlast : s.idx = 17 := hidx17 (.inr (.inr (.inl hq)))
    have hsecond : s.burst = 1 := hburst1 (.inl hq)
    simp [ReachableInv, State.advance, hq, hlast, hsecond, hframe]
  | sFreq | sHmark | sHspace | sGspace | sEspace =>
    simp [ReachableInv, State.advance, hq, hidx, hframe]

theorem advanceData_state_ne_idle {s : State} (hdata : s.state = .sData) : s.advanceData.state ≠ .idle := by
  unfold State.advanceData
  split
  · simp [hdata]
  · split <;> simp

/-- A command ends with BURST 1 and IDX 17. -/
theorem advance_enters_idle {s : State} (hinv : ReachableInv s) (hbusy : s.state ≠ .idle)
    (hidle : s.advance.state = .idle) : s.advance.burst = 1 ∧ s.advance.idx = 17 := by
  obtain ⟨hused, -, -, hburst, hidx, -⟩ := hinv
  cases hq : s.state with
  | idle => exact absurd hq hbusy
  | unused n => exact absurd hq (hused n)
  | sEspace => simp [State.advance, hq, hburst (.inr hq), hidx (.inr (.inr (.inr hq)))]
  | sData =>
    have hadv : s.advance = s.advanceData := by simp [State.advance, hq]
    exact absurd (hadv ▸ hidle) (advanceData_state_ne_idle hq)
  | sFreq | sHmark | sHspace | sGmark | sGspace | sEmark => simp [State.advance, hq] at hidle

/-- A handshake hands over the stream's word at the block's position and moves one position on. -/
theorem streamAt_transfer {base : List OpWord} {f : Frame} {s : State} {w : OpWord} (hinv : ReachableInv s)
    (hbusy : s.state ≠ .idle) (hstream : StreamAt base f s)
    (hw : (commandStream s.params f)[s.position]? = some w) : StreamAt base f (s.transfer w).advance := by
  obtain ⟨hparams, -, -, -, hadded, -⟩ := advance_frame (s.transfer w)
  have hpos : (s.transfer w).advance.position = s.position + 1 :=
    advance_position (s := s.transfer w) hinv hbusy
  rw [StreamAt, hparams, hadded, hpos, State.transfer_opStream, State.transfer_params, hstream,
    List.take_add_one, hw, Option.toList_some, List.append_assoc]

/-! ## The steps of a command under a ready service -/

/-- The state that the service's turn leaves, with what it made of the carrier and of the air. -/
def State.served (s : State) (carrier : Option Byte) (air : List Pulse) : State :=
  { s with accepted := none, carrier := carrier, air := air }

/-- A step is what the block does to the served state, whatever the service did. -/
theorem step_of_blockTurn {s : State} (k : State → State)
    (h : ∀ c a, blockTurn (s.served c a) = .next (k (s.served c a))) :
    ∃ c a, step s = .next (k (s.served c a)).endStep := by
  obtain ⟨c, a, hstep⟩ := step_eq s
  refine ⟨c, a, ?_⟩
  rw [hstep, ← State.served, h]
  rfl

theorem blockTurn_of_handshake {s : State} {w : OpWord} (hrst : s.pins.rst = false)
    (hw : s.presentedWord = .ok (some w)) (hready : s.pins.opReady = true) :
    blockTurn s = .next (s.transfer w).advance := by
  simp [blockTurn_of_op hrst hw, opTurn, hready]

theorem blockTurn_of_offer {s : State} (hidle : s.state = .idle) (hrst : s.pins.rst = false)
    (hvalid : s.pins.cmdValid = true) :
    blockTurn s = .next (s.accept (normalizeWord s.params s.pins.cmdWord s.var)) := by
  have hready : s.cmdReady = true := s.cmdReady_iff.mpr ⟨hidle, hrst⟩
  rw [blockTurn_of_idle hrst (presentedWord_idle hidle), idleTurn_of_offer hvalid,
    exec_decodeCmd_ready _ hready, wordTuple_eq_normalizeWord]

/-- A step in which the service takes the presented word. -/
theorem step_of_handshake {s : State} {w : OpWord} (hrst : s.pins.rst = false)
    (hw : s.presentedWord = .ok (some w)) (hready : s.pins.opReady = true) :
    ∃ c a, step s = .next ((s.served c a).transfer w).advance.endStep :=
  step_of_blockTurn (fun u => (u.transfer w).advance) fun _ _ => blockTurn_of_handshake hrst hw hready

/-- A step in which the idle block accepts the offered command. -/
theorem step_of_offer {s : State} (hidle : s.state = .idle) (hrst : s.pins.rst = false)
    (hvalid : s.pins.cmdValid = true) :
    ∃ c a, step s = .next
      ((s.served c a).accept (normalizeWord s.params s.pins.cmdWord s.var)).endStep :=
  step_of_blockTurn (fun u => u.accept (normalizeWord s.params s.pins.cmdWord s.var)) fun _ _ =>
    blockTurn_of_offer hidle hrst hvalid

/-- The first of the scripted inputs are those of the step. -/
theorem pins_of_script {s : State} {p : Pins} {rest : List Pins} (h : s.script = p :: rest) :
    s.pins = p := by
  simp [State.pins, h]

/-- s stands inside, or just behind, the transmission of f that u begins: the op words that joined the
stream since u are the command's first ones, as many as the position says, and a finished command leaves
BURST 1 and IDX 17. -/
structure Transmits (u : State) (f : Frame) (s : State) : Prop where
  inv : ReachableInv s
  holds : Holds s.frame f
  stream : StreamAt u.opStream f s
  finished : s.state = .idle → s.burst = 1 ∧ s.idx = 17
  params : s.params = u.params
  tuple : s.tuple = u.tuple
  var : s.var = u.var

theorem accept_inv (s : State) (tup : Tuple) : ReachableInv (s.accept tup) := by
  simpa [ReachableInv] using frameBuilt_accept s tup

/-- The accept step begins the transmission of the frame it builds. -/
theorem transmits_accept (s : State) (tup : Tuple) :
    Transmits (s.accept tup) (build s.params tup) (s.accept tup) where
  inv := accept_inv s tup
  holds := holds_storeFrame s.frame _
  stream := by simp [StreamAt]
  finished := by simp
  params := rfl
  tuple := rfl
  var := rfl

/-- A handshake goes on with the transmission. -/
theorem transmits_transfer {u s : State} {f : Frame} {w : OpWord} (h : Transmits u f s)
    (hbusy : s.state ≠ .idle) (hw : (commandStream s.params f)[s.position]? = some w) :
    Transmits u f (s.transfer w).advance := by
  obtain ⟨hparams, hvar, htuple, hframe, -⟩ := advance_frame (s.transfer w)
  exact
    { inv := advance_inv (s := s.transfer w) h.inv hbusy
      holds := hframe ▸ h.holds
      stream := streamAt_transfer h.inv hbusy h.stream hw
      finished := advance_enters_idle (s := s.transfer w) h.inv hbusy
      params := hparams.trans h.params
      tuple := htuple.trans h.tuple
      var := hvar.trans h.var }

/-- Neither the end of a step nor what the service does is part of the transmission. -/
theorem transmits_endStep {u s : State} {f : Frame} (h : Transmits u f s) : Transmits u f s.endStep :=
  ⟨h.inv, h.holds, h.stream, h.finished, h.params, h.tuple, h.var⟩

theorem transmits_service {u s : State} {f : Frame} (h : Transmits u f s) (c : Option Byte)
    (a : List Pulse) : Transmits u f (s.served c a) :=
  ⟨h.inv, h.holds, h.stream, h.finished, h.params, h.tuple, h.var⟩

/-- A step with a ready service takes the transmission one position on. -/
theorem transmits_step {u s : State} {f : Frame} (h : Transmits u f s) (hbusy : s.state ≠ .idle)
    (hrst : s.pins.rst = false) (hready : s.pins.opReady = true) :
    ∃ t, step s = .next t ∧ Transmits u f t ∧ t.position = s.position + 1 ∧ t.script = s.script.tail := by
  obtain ⟨w, hw, hnext⟩ := presentedWord_eq_stream h.inv h.holds hbusy
  obtain ⟨c, a, hstep⟩ := step_of_handshake hrst hw hready
  let v : State := s.served c a
  obtain ⟨-, -, -, -, -, -, -, -, hscript, -⟩ := advance_frame (v.transfer w)
  refine ⟨_, hstep, transmits_endStep (transmits_transfer (transmits_service h c a) hbusy hnext),
    advance_position (s := v.transfer w) h.inv hbusy, congrArg List.tail hscript⟩

/-- As many ready steps as ops are left end the transmission. -/
theorem transmits_run {u : State} {f : Frame} {rest : List Pins} (ps : List Pins) {s : State}
    (h : Transmits u f s) (hleft : s.position + ps.length = 45)
    (hps : ∀ p ∈ ps, p.rst = false ∧ p.opReady = true) (hscript : s.script = ps ++ rest) :
    ∃ t, Host.Core.run Sys2Proof.core ps.length s = .next t ∧ Transmits u f t ∧ t.position = 45 ∧
      t.script = rest := by
  induction ps generalizing s with
  | nil => exact ⟨s, rfl, h, hleft, hscript⟩
  | cons p ps ih =>
    have hpins : s.pins = p := pins_of_script hscript
    obtain ⟨hrst, hready⟩ := hps p List.mem_cons_self
    rw [List.length_cons] at hleft ⊢
    have hbusy : s.state ≠ .idle := fun hidle => by
      simp [State.position, hidle] at hleft
    obtain ⟨t, hstep, ht, hpos, htail⟩ := transmits_step h hbusy (by rw [hpins, hrst]) (by rw [hpins, hready])
    rw [run_succ _ hstep]
    exact ih ht (by omega) (fun q hq => hps q (List.mem_cons_of_mem p hq)) (by rw [htail, hscript]; rfl)

/-- After its 45 ops a transmission is over and all its words are in the stream. -/
theorem transmits_done {u s : State} {f : Frame} (h : Transmits u f s) (hpos : s.position = 45) :
    s.state = .idle ∧ s.opStream = u.opStream ++ commandStream s.params f := by
  have hidle : s.state = .idle := by
    by_contra hbusy
    have hlt := position_lt_of_busy h.inv hbusy
    omega
  have hstream : s.opStream = u.opStream ++ (commandStream s.params f).take s.position := h.stream
  rw [hpos, List.take_of_length_le (length_commandStream s.params f).le] at hstream
  exact ⟨hidle, hstream⟩

/-- Settles O47: the accept step begins a transmission, and 45 ready steps end it. -/
theorem wholeCommandEmitsTheStream : Obligations.WholeCommandEmitsTheStream := by
  intro s p0 ps rest hidle hrst hvalid hlen hps hscript
  have hpins : s.pins = p0 := pins_of_script hscript
  obtain ⟨c, a, hstep⟩ := step_of_offer hidle (by rw [hpins, hrst]) (by rw [hpins, hvalid])
  rw [hpins] at hstep
  let tup := normalizeWord s.params p0.cmdWord s.var
  let u : State := (s.served c a).accept tup
  have hbegin : Transmits u (build s.params tup) u.endStep := transmits_endStep (transmits_accept _ tup)
  have hrest : u.endStep.script = ps ++ rest := congrArg List.tail hscript
  obtain ⟨t, hrun, ht, hpos, htail⟩ := transmits_run ps hbegin (by rw [hlen]; rfl) hps hrest
  obtain ⟨hdone, hstream⟩ := transmits_done ht hpos
  obtain ⟨hburst, hidx⟩ := ht.finished hdone
  rw [hlen] at hrun
  rw [ht.params] at hstream
  have hframe : IsFrameOf s.params t.tuple (build s.params tup) := ht.tuple ▸ isFrameOf_build s.params tup
  exact ⟨t, build s.params tup, (run_succ 45 hstep).trans hrun, ht.tuple, hframe, ht.holds, hstream, hdone,
    hburst, hidx, ht.var, ht.params, htail⟩

/-- Settles O51: S_ESPACE hands over SPACE 0 and leaves the block idle, where the next step accepts. -/
theorem commandsBackToBack : Obligations.CommandsBackToBack := by
  intro s p q r rest hstate hscript hprst hpready hqrst hqvalid hrrst
  have hpins : s.pins = p := pins_of_script hscript
  have hw : s.presentedWord = .ok (some (OpWord.space 0)) := by
    simp only [State.presentedWord, hstate]
    rfl
  obtain ⟨c, a, hfirst⟩ := step_of_handshake (by rw [hpins, hprst]) hw (by rw [hpins, hpready])
  let v : State := s.served c a
  have hidle : (v.transfer (OpWord.space 0)).advance = (v.transfer (OpWord.space 0)).enter .idle := by
    simp [State.advance, v, State.served, hstate]
  rw [hidle] at hfirst
  let u : State := ((v.transfer (OpWord.space 0)).enter .idle).endStep
  have huscript : u.script = q :: r :: rest := congrArg List.tail hscript
  have hupins : u.pins = q := pins_of_script huscript
  obtain ⟨c', a', hsecond⟩ := step_of_offer (s := u) rfl (by rw [hupins, hqrst]) (by rw [hupins, hqvalid])
  rw [hupins] at hsecond
  refine ⟨_, (run_succ 1 hfirst).trans (run_succ 0 hsecond), rfl, rfl, rfl,
    opWord_eq_some_iff.mpr ⟨?_, rfl⟩⟩
  rw [pins_of_script (p := r) (rest := rest) (congrArg List.tail huscript), hrrst]

end Sys2Proof.Machine

/-! The family of 60_exceptions.md: a service that stops answering raises nothing in the block, which holds
its op without a time limit (R212). -/

namespace Sys2Proof.Machine

/-- As long as the service stalls, a run changes only the inputs, their count and the service itself. -/
theorem run_of_stall {w : OpWord} {rest : List Pins} (ps : List Pins) {s : State}
    (hw : s.presentedWord = .ok (some w)) (hps : ∀ p ∈ ps, p.rst = false ∧ p.opReady = false)
    (hscript : s.script = ps ++ rest) :
    ∃ acc c a n, Host.Core.run Sys2Proof.core ps.length s = .next
      { s with accepted := acc, carrier := c, air := a, script := rest, tick := n } := by
  induction ps generalizing s with
  | nil =>
    obtain rfl : s.script = rest := hscript
    exact ⟨s.accepted, s.carrier, s.air, s.tick, rfl⟩
  | cons p ps ih =>
    have hpins : s.pins = p := pins_of_script hscript
    obtain ⟨hrst, hstall⟩ := hps p List.mem_cons_self
    have hoffered : s.opWord = some w := opWord_eq_some_iff.mpr ⟨by rw [hpins, hrst], hw⟩
    obtain ⟨c, a, hstep⟩ := step_of_stall hoffered (by rw [hpins, hstall])
    rw [List.length_cons, run_succ _ hstep]
    exact ih (s := ({ s with accepted := none, carrier := c, air := a } : State).endStep) hw
      (fun q hq => hps q (List.mem_cons_of_mem p hq)) (congrArg List.tail hscript)

/-- A block that drives an op word is busy and takes no command. -/
theorem busy_of_opWord {s : State} {w : OpWord} (h : s.opWord = some w) :
    s.busy = true ∧ s.cmdReady = false := by
  obtain ⟨hrst, hw⟩ := opWord_eq_some_iff.mp h
  have hbusy : s.state ≠ .idle := state_ne_idle_of_presents hw
  simp [State.busy, State.cmdReady, hrst, hbusy]

/-- Settles O40: the stalled run keeps all that the presented word is made of, and STATE is not IDLE. -/
theorem stalledServiceHoldsTheBlock : Obligations.StalledServiceHoldsTheBlock := by
  intro ps rest s w hscript _ hps hw
  obtain ⟨-, hpresented⟩ := opWord_eq_some_iff.mp hw
  obtain ⟨acc, c, a, n, hrun⟩ := run_of_stall ps hpresented hps hscript
  refine ⟨_, hrun, rfl, rfl, rfl, rfl, rfl, rfl, fun hrst => ?_⟩
  have hoffered := opWord_eq_some_iff.mpr ⟨hrst, hpresented⟩
  exact ⟨hoffered, busy_of_opWord hoffered⟩

end Sys2Proof.Machine

/-! The family of 70_reset_and_hazards.md: what holds of every state that a run from reset reaches (R232). -/

namespace Sys2Proof.Machine

open Sys2Proof.Safety

theorem blockTurn_of_reset {s : State} (hrst : s.pins.rst = true) : blockTurn s = .next s.resetBlock := by
  simp [blockTurn, hrst]

/-- IDLE asks nothing of FRAME, so the invariant needs no frame built there. -/
theorem inv_of_idle {s : State} (hidle : s.state = .idle) (hidx : s.idx.toNat ≤ 17) : ReachableInv s := by
  simp [ReachableInv, hidle, hidx]

/-- Where the invariant holds the block's turn answers, and keeps it: reset and a held turn at once, an
accepted command by the frame it builds, a handshake by the move it makes. -/
theorem blockTurn_next_inv {s : State} (hinv : ReachableInv s) :
    ∃ t, blockTurn s = .next t ∧ ReachableInv t := by
  cases hrst : s.pins.rst with
  | true => exact ⟨_, blockTurn_of_reset hrst, inv_of_idle rfl (Nat.zero_le 17)⟩
  | false =>
    by_cases hidle : s.state = .idle
    · cases hvalid : s.pins.cmdValid with
      | true => exact ⟨_, blockTurn_of_offer hidle hrst hvalid, accept_inv s _⟩
      | false =>
        have hwaits : blockTurn s = .next s :=
          (blockTurn_of_idle hrst (presentedWord_idle hidle)).trans (idleTurn_of_no_offer hvalid)
        exact ⟨s, hwaits, hinv⟩
    · have ⟨_, _, _, _, _, hbuilt⟩ := hinv
      obtain ⟨f, hholds, -⟩ := hbuilt hidle
      obtain ⟨w, hw, -⟩ := presentedWord_eq_stream hinv hholds hidle
      cases hready : s.pins.opReady with
      | true => exact ⟨_, blockTurn_of_handshake hrst hw hready, advance_inv (s := s.transfer w) hinv hidle⟩
      | false => exact ⟨s, blockTurn_of_stall (opWord_eq_some_iff.mpr ⟨hrst, hw⟩) hready, hinv⟩

/-- The invariant speaks neither of the service nor of the inputs, so the block's turn decides the step. -/
theorem step_next_inv {s : State} (hinv : ReachableInv s) : ∃ t, step s = .next t ∧ ReachableInv t := by
  obtain ⟨c, a, hstep⟩ := step_eq s
  obtain ⟨u, hblock, hu⟩ := blockTurn_next_inv (s := s.served c a) hinv
  refine ⟨u.endStep, ?_, hu⟩
  rw [hstep, ← State.served, hblock]
  rfl

theorem run_next_inv (n : Nat) {s : State} (hinv : ReachableInv s) :
    ∃ t, Host.Core.run Sys2Proof.core n s = .next t ∧ ReachableInv t := by
  induction n generalizing s with
  | zero => exact ⟨s, rfl, hinv⟩
  | succ n ih =>
    obtain ⟨u, hstep, hu⟩ := step_next_inv hinv
    rw [run_succ n hstep]
    exact ih hu

/-- Settles O57: reset meets the invariant with any script, as it leaves the block idle with IDX 0, and
every step of a run keeps it. -/
theorem reachableStatesMeetTheInvariant : Obligations.ReachableStatesMeetTheInvariant := fun script n =>
  run_next_inv n (s := { State.reset with script := script }) (inv_of_idle rfl (Nat.zero_le 17))

end Sys2Proof.Machine

/-! Each instruction and its word determine each other (30_encoding.md R70, R71, R77, R80), and what becomes
of a temperature (40_command_translation.md R115 to R117, 70_reset_and_hazards.md R241). -/

namespace Sys2Proof.Machine

open Sys2Proof.Safety

/-! ## Instructions and words -/

theorem decode_pack (mode : BitVec 3) (o : CmdOperands) :
    decode (.cmd (CmdWord.pack mode o)) = rowOfMode mode o := by
  rw [decode_cmd_eq_rowOfMode, CmdWord.mode_pack, CmdWord.operands_pack]

theorem encode_rowOfMode (mode : BitVec 3) (o : CmdOperands) :
    encode (rowOfMode mode o) = .cmd (CmdWord.pack mode o) := by
  rcases bits3_cases mode with rfl | rfl | rfl | rfl | rfl | rfl | rfl | rfl <;> rfl

/-- Settles O2: a command word is read back by its MODE value, an op word by its kind. -/
theorem decodeInvertsEncode : Obligations.DecodeInvertsEncode := by
  intro i
  cases i with
  | sendRsv0 o => exact decode_pack 0 o
  | sendAuto o => exact decode_pack 1 o
  | sendHeat o => exact decode_pack 2 o
  | sendCool o => exact decode_pack 3 o
  | sendDry o => exact decode_pack 4 o
  | sendFan o => exact decode_pack 5 o
  | sendMaint o => exact decode_pack 6 o
  | sendRsv7 o => exact decode_pack 7 o
  | setfreq khz => exact decode_of_encode_op (i := .setfreq khz) rfl
  | mark us => exact decode_of_encode_op (i := .mark us) rfl
  | space us => exact decode_of_encode_op (i := .space us) rfl
  | sendbyte b bm zs os => exact decode_of_encode_op (i := .sendbyte b bm zs os) rfl

/-- Settles O3: MODE and the operands hold all 16 bits. -/
theorem commandWordsRoundTrip : Obligations.CommandWordsRoundTrip := by
  intro w
  rw [decode_cmd_eq_rowOfMode, encode_rowOfMode, CmdWord.pack_mode_operands]

/-- Settles O1, by evaluating the decoder on the written words. -/
theorem writtenWordsDecode : Obligations.WrittenWordsDecode := by
  unfold Obligations.WrittenWordsDecode
  decide

/-! ## Words and bytes (30_encoding.md R70) -/

theorem length_bytesOfNat (n v : Nat) : (bytesOfNat n v).length = n := by
  induction n generalizing v with
  | zero => rfl
  | succ n ih => rw [bytesOfNat, List.length_cons, ih]

/-- n bytes keep a number below 256 ^ n. -/
theorem natOfBytes_bytesOfNat {n v : Nat} (h : v < 256 ^ n) : natOfBytes (bytesOfNat n v) = v := by
  induction n generalizing v with
  | zero => simpa [bytesOfNat, natOfBytes, eq_comm] using h
  | succ n ih =>
    have hrest : v / 256 < 256 ^ n := Nat.div_lt_of_lt_mul (by rwa [Nat.pow_succ'] at h)
    rw [bytesOfNat, natOfBytes, ih hrest, BitVec.toNat_ofNat]
    exact Nat.mod_add_div v 256

theorem decodeBytes_bytes (pw : PortWord) : decodeBytes pw.bytes = .ok (decode pw) := by
  cases pw with
  | cmd w =>
    have hw : natOfBytes (bytesOfNat 2 w.toNat) = w.toNat := natOfBytes_bytesOfNat w.isLt
    simp [decodeBytes, PortWord.bytes, length_bytesOfNat, hw]
  | op w =>
    have hw : natOfBytes (bytesOfNat 16 w.toNat) = w.toNat := natOfBytes_bytesOfNat w.isLt
    simp [decodeBytes, PortWord.bytes, length_bytesOfNat, hw]

/-- Settles O6: the length picks the format, and the bytes of a word give its number back. -/
theorem bytesDecodeByLength : Obligations.BytesDecodeByLength := by
  refine ⟨decodeBytes_bytes, fun bs h2 h16 => ?_⟩
  unfold decodeBytes
  split
  · next h => exact absurd h h2
  · next h => exact absurd h h16
  · rfl

theorem decode_of_decodeTableWord {nbits w : Nat} {i : Instr} (h : decodeTableWord nbits w = some i) :
    ∃ pw, tableWord nbits w = some pw ∧ decode pw = i := by
  unfold decodeTableWord at h
  split at h
  · cases h
  · next pw hword =>
    rw [decodeBytes_bytes] at h
    exact ⟨pw, hword, Option.some.inj h⟩

/-! ## The temperature (40_command_translation.md R115 to R117) -/

theorem wordTuple_t_maint (p : Params) {w : CmdWord} (hmode : CmdWord.mode w = 6) :
    (wordTuple p .supporting w).t = 10 := by
  rw [wordTuple, hmode, modeRow_maint, rowMaint_supporting]
  rfl

/-- A validated temperature of a caller is a normal one, and under the alternative reading not 31. -/
theorem validTemp_range (r : TempRangeReading) (t : Byte) :
    17 ≤ (validTemp r t false).toNat ∧ (validTemp r t false).toNat ≤ 31 ∧
      (r = .halfOpen17to31 → (validTemp r t false).toNat ≤ 30) := by
  cases r with
  | open16to32 =>
    rw [validTemp_open]
    split
    · next h => exact ⟨h.1, h.2, nofun⟩
    · decide
  | halfOpen17to31 =>
    rw [validTemp_halfOpen]
    split
    · next h => exact ⟨h.1, by omega, fun _ => h.2⟩
    · decide

/-- Settles O20: maintenance gives 10, the FAN row 31, and every other row validates. -/
theorem tenMeansMaintenance : Obligations.TenMeansMaintenance := by
  intro w s hready
  refine ⟨_, exec_decodeCmd_ready w hready, ?_⟩
  simp only [State.accept_tuple]
  by_cases hmaint : CmdWord.mode w = 6 ∧ s.var = .supporting
  · obtain ⟨hmode, hvar⟩ := hmaint
    rw [hvar, wordTuple_t_maint s.params hmode]
    exact ⟨iff_of_true rfl ⟨hmode, rfl⟩, fun h => absurd rfl h, fun _ h => absurd h (by decide)⟩
  · by_cases hfan : CmdWord.mode w = 5
    · rw [wordTuple_t_fan s.params s.var hfan]
      exact ⟨iff_of_false (by decide) hmaint, fun _ => by decide, fun _ _ => hfan⟩
    · rw [wordTuple_t_ordinary s.params hmaint hfan]
      obtain ⟨hlow, hhigh, hhalf⟩ := validTemp_range s.params.tempRange (w.extractLsb' 8 8)
      refine ⟨iff_of_false (fun h => ?_) hmaint, fun _ => ⟨hlow, hhigh⟩, fun hreading h => ?_⟩
      · rw [h] at hlow
        exact absurd hlow (by decide)
      · have hle := hhalf hreading
        rw [h] at hle
        exact absurd hle (by decide)

/-! ### A wider temperature (30_encoding.md R75, 70_reset_and_hazards.md R241) -/

theorem saturateTemp_toNat (t : Int) : ((saturateTemp t).toNat : Int) = max 0 (min t 255) := by
  unfold saturateTemp
  split
  · next hneg => simp; omega
  · split
    · next hbig => simp; omega
    · next hneg hbig =>
      rw [BitVec.toNat_ofInt]
      omega

/-- A test for 17 to high cannot tell a number of degrees from its saturation: what saturates lies outside
either way. -/
theorem toNat_ite_saturateTemp (t : Int) {high : Nat} (hhigh : high < 255) :
    ((if 17 ≤ (saturateTemp t).toNat ∧ (saturateTemp t).toNat ≤ high then saturateTemp t else 23 : Byte).toNat
      : Int) = if 16 < t ∧ t < high + 1 then t else 23 := by
  have hsat := saturateTemp_toNat t
  have hdefault : ((23 : Byte).toNat : Int) = 23 := rfl
  split <;> split <;> omega

/-- Settles O26: each reading is such a test, and 273 has the low byte of 17. -/
theorem saturationLosesNothing : Obligations.SaturationLosesNothing := by
  refine ⟨fun r t => ?_, fun r => by cases r <;> decide⟩
  cases r with
  | open16to32 =>
    rw [validTemp_open, toNat_ite_saturateTemp t (by decide)]
    simp [acceptDegrees]
  | halfOpen17to31 =>
    rw [validTemp_halfOpen, toNat_ite_saturateTemp t (by decide)]
    simp [acceptDegrees]

end Sys2Proof.Machine

/-! The whole step: what it runs, where it stops, and what every step
keeps (60_exceptions.md R210, R211, 70_reset_and_hazards.md R230 to R240). -/

namespace Sys2Proof.Machine

open Sys2Proof.Safety

/-! ## The two turns of a step -/

theorem step_of_serviceTurn {s u : State} (h : serviceTurn s = .next u) :
    step s = andThen (blockTurn u) finishStep := by
  simp [step, h]

theorem serviceTurn_of_none {s : State} (h : s.accepted = none) : serviceTurn s = .next s := by
  simp [serviceTurn, h]

theorem serviceTurn_of_some {s : State} {w : OpWord} (h : s.accepted = some w) :
    serviceTurn s = exec (decode (.op w)) s.clearAccepted := by
  simp [serviceTurn, h]

theorem serviceTurn_served (s : State) : ∃ c a, serviceTurn s = .next (s.served c a) :=
  serviceTurn_next s

/-- The block's turn outside reset in IDLE, where nothing is offered. -/
theorem blockTurn_of_quiet {s : State} (hidle : s.state = .idle) (hrst : s.pins.rst = false)
    (hvalid : s.pins.cmdValid = false) : blockTurn s = .next s :=
  (blockTurn_of_idle hrst (presentedWord_idle hidle)).trans (idleTurn_of_no_offer hvalid)

/-- Settles O7: nothing is accepted, so the step is the block's turn, which takes the offer. -/
theorem offeredCommandRuns : Obligations.OfferedCommandRuns := by
  intro s i hidle hrst hvalid hnone hdecode
  rw [step_of_serviceTurn (serviceTurn_of_none hnone), blockTurn_of_idle hrst (presentedWord_idle hidle),
    idleTurn_of_offer hvalid, hdecode]

/-- Settles O8: the service's turn is exec of the word it holds. -/
theorem acceptedOpRuns : Obligations.AcceptedOpRuns := by
  intro s w i haccepted hdecode
  rw [step, serviceTurn_of_some haccepted, hdecode]
  rfl

/-- An idle block with quiet inputs adds nothing to an op that the service performs. -/
theorem exec_op_then_quiet (w : OpWord) {s : State} (hidle : s.state = .idle) (hrst : s.pins.rst = false)
    (hvalid : s.pins.cmdValid = false) :
    andThen (exec (decode (.op w)) s) blockTurn = exec (decode (.op w)) s := by
  rcases exec_decodeOp_cases w s with ⟨khz, h⟩ | ⟨ps, h⟩ <;>
    · rw [h]
      exact blockTurn_of_quiet hidle hrst hvalid

/-- Settles O9: a placed command is an offer to an idle block, a placed op word an op that the service
has accepted. -/
theorem placedWordRunsFirst : Obligations.PlacedWordRunsFirst := by
  intro nbits w i h
  obtain ⟨pw, hword, hdecode⟩ := decode_of_decodeTableWord h
  have hplaced : State.reset.withFetchWord nbits w = State.reset.placeWord pw := by
    simp [State.withFetchWord, hword]
  rw [hplaced]
  cases pw with
  | cmd v => exact offeredCommandRuns _ i rfl rfl rfl rfl hdecode
  | op v =>
    rw [acceptedOpRuns (State.reset.placeWord (.op v)) v i rfl hdecode, ← hdecode,
      exec_op_then_quiet v rfl rfl rfl]

/-- Only IDLE presents nothing. -/
theorem idle_of_presents_none {s : State} (hw : s.presentedWord = .ok none) : s.state = .idle := by
  cases hq : s.state with simp only [State.presentedWord, hq] at hw
  | idle => rfl
  | sData => split at hw <;> cases hw
  | sFreq | sHmark | sHspace | sGmark | sGspace | sEmark | sEspace | unused n => cases hw

/-! ## The command port outside IDLE and in reset (30_encoding.md R79) -/

/-- The op turn reads the op port alone, and the inputs are dropped after it. -/
theorem opTurn_of_same_opReady (w : OpWord) (s : State) {p q : Pins} (rest : List Pins)
    (h : q.opReady = p.opReady) :
    andThen (opTurn w (s.driven q rest)) finishStep = andThen (opTurn w (s.driven p rest)) finishStep := by
  have hadvance : ∀ r, ((s.driven r rest).transfer w).advance = (s.transfer w).advance.driven r rest :=
    fun r => advance_driven (s.transfer w) r rest
  simp only [opTurn, driven_pins, hadvance, h]
  split <;> rfl

theorem blockTurn_of_deaf_port {s : State} {p : Pins} (rest : List Pins) (v : Bool) (w : CmdWord)
    (h : s.state ≠ .idle ∨ p.rst = true) :
    andThen (blockTurn (s.driven { p with cmdValid := v, cmdWord := w } rest)) finishStep =
      andThen (blockTurn (s.driven p rest)) finishStep := by
  let q : Pins := { p with cmdValid := v, cmdWord := w }
  change andThen (blockTurn (s.driven q rest)) finishStep = _
  cases hrst : p.rst with
  | true =>
    rw [blockTurn_of_reset (s := s.driven q rest) hrst, blockTurn_of_reset (s := s.driven p rest) hrst]
    rfl
  | false =>
    have hbusy : s.state ≠ .idle := h.resolve_right (by simp [hrst])
    cases hw : s.presentedWord with
    | error e =>
      rw [blockTurn_of_fault (s := s.driven q rest) hrst hw,
        blockTurn_of_fault (s := s.driven p rest) hrst hw]
    | ok offered =>
      cases offered with
      | none => exact absurd (idle_of_presents_none hw) hbusy
      | some op =>
        rw [blockTurn_of_op (s := s.driven q rest) hrst hw, blockTurn_of_op (s := s.driven p rest) hrst hw]
        exact opTurn_of_same_opReady op s rest rfl

/-- Settles O25: a block that is not ready reads the op port or reset, never the command port. -/
theorem unreadyCommandWaits : Obligations.UnreadyCommandWaits := by
  refine ⟨fun w s hready => ?_, fun s p rest v w hscript h => ?_⟩
  · rcases exec_decodeCmd_cases w s with ⟨hready', -⟩ | ⟨-, hexec⟩
    · simp [hready] at hready'
    · exact hexec
  · have hs : s.driven p rest = s := by simp [State.driven, ← hscript]
    obtain ⟨u, hu⟩ := serviceTurn_driven s rest
    have hbusy : u.state ≠ .idle ∨ p.rst = true := by
      obtain ⟨c, a, hserved⟩ := serviceTurn_served (s.driven p rest)
      rw [hu] at hserved
      have hstate : u.state = s.state := (congrArg State.state (Host.Outcome.next.inj hserved) :)
      rwa [hstate]
    calc step (s.driven { p with cmdValid := v, cmdWord := w } rest)
        = andThen (blockTurn (u.driven { p with cmdValid := v, cmdWord := w } rest)) finishStep :=
          step_of_serviceTurn (hu _)
      _ = andThen (blockTurn (u.driven p rest)) finishStep := blockTurn_of_deaf_port rest v w hbusy
      _ = step (s.driven p rest) := (step_of_serviceTurn (hu p)).symm
      _ = step s := by rw [hs]

/-! ## Where the machine stops (60_exceptions.md R211) -/

theorem fetch_eq_error_iff {m : Memory} {k : Nat} {e : Fault} :
    Memory.fetch m k = .error e ↔
      17 < k ∧ e = .idxOutOfRange k ∨ k ≤ 17 ∧ Memory.read m k = none ∧ e = .frameUnwritten k := by
  unfold Memory.fetch
  split
  · next hk => simp [hk, Nat.not_le.2 hk, eq_comm]
  · next hk =>
    cases hread : Memory.read m k <;> simp [hk, Nat.not_lt.1 hk, eq_comm]

/-- e is the fault that s stops with, outside reset. -/
def StopsWith (s : State) (e : Fault) : Prop :=
  (∃ n, s.state = .unused n ∧ e = .unusedState n) ∨
  (s.state = .sData ∧ 17 < s.idx.toNat ∧ e = .idxOutOfRange s.idx.toNat) ∨
  (s.state = .sData ∧ s.idx.toNat ≤ 17 ∧ Memory.read s.frame s.idx.toNat = none ∧
    e = .frameUnwritten s.idx.toNat)

theorem presentedWord_of_sData {s : State} (h : s.state = .sData) :
    s.presentedWord = (Memory.fetch s.frame s.idx.toNat).map fun b =>
      some (OpWord.sendbyte b s.params.bitMarkUs s.params.zeroSpaceUs s.params.oneSpaceUs) := by
  simp only [State.presentedWord, h]
  cases Memory.fetch s.frame s.idx.toNat <;> rfl

theorem presentedWord_eq_error_iff {s : State} {e : Fault} :
    s.presentedWord = .error e ↔ StopsWith s e := by
  unfold StopsWith
  cases hq : s.state with
  | sData =>
    have hfetch : s.presentedWord = .error e ↔ Memory.fetch s.frame s.idx.toNat = .error e := by
      rw [presentedWord_of_sData hq]
      cases Memory.fetch s.frame s.idx.toNat <;> simp [Except.map]
    simp [hfetch, fetch_eq_error_iff]
  | unused n => simp [State.presentedWord, hq, eq_comm]
  | idle | sFreq | sHmark | sHspace | sGmark | sGspace | sEmark | sEspace =>
    simp [State.presentedWord, hq]

/-- Outside a fault of the presented word the block's turn answers: reset, commands and handshakes all
do. -/
theorem blockTurn_next_or_fault (s : State) :
    (∃ t, blockTurn s = .next t) ∨
      ∃ e, blockTurn s = .fault e ∧ s.pins.rst = false ∧ s.presentedWord = .error e := by
  cases hrst : s.pins.rst with
  | true => exact .inl ⟨_, blockTurn_of_reset hrst⟩
  | false =>
    cases hw : s.presentedWord with
    | error e => exact .inr ⟨e, blockTurn_of_fault hrst hw, rfl, rfl⟩
    | ok offered =>
      refine .inl ?_
      cases offered with
      | some w => exact ⟨_, blockTurn_of_op hrst hw⟩
      | none =>
        have hidle := idle_of_presents_none hw
        cases hvalid : s.pins.cmdValid with
        | true => exact ⟨_, blockTurn_of_offer hidle hrst hvalid⟩
        | false => exact ⟨_, blockTurn_of_quiet hidle hrst hvalid⟩

theorem blockTurn_eq_fault_iff {s : State} {e : Fault} :
    blockTurn s = .fault e ↔ s.pins.rst = false ∧ StopsWith s e := by
  rw [← presentedWord_eq_error_iff]
  refine ⟨fun h => ?_, fun ⟨hrst, hw⟩ => blockTurn_of_fault hrst hw⟩
  rcases blockTurn_next_or_fault s with ⟨t, ht⟩ | ⟨e', he, hrst, hw⟩
  · rw [ht] at h
    cases h
  · rw [he] at h
    cases h
    exact ⟨hrst, hw⟩

/-- Settles O60: the service's turn and the end of a step always answer, and neither touches what the
block's faults depend on. -/
theorem stopsAreModelOnlyFaults : Obligations.StopsAreModelOnlyFaults := by
  refine ⟨fun s r h => ?_, fun s e => ?_⟩
  · obtain ⟨c, a, hu⟩ := serviceTurn_served s
    rw [step_of_serviceTurn hu] at h
    rcases blockTurn_next_or_fault (s.served c a) with ⟨t, ht⟩ | ⟨e, he, -⟩
    · rw [ht] at h
      cases h
    · rw [he] at h
      cases h
  · obtain ⟨c, a, hu⟩ := serviceTurn_served s
    have hstep : step s = .fault e ↔ blockTurn (s.served c a) = .fault e := by
      rw [step_of_serviceTurn hu]
      cases blockTurn (s.served c a) <;> simp [finishStep]
    exact hstep.trans blockTurn_eq_fault_iff

/-! ## What every step keeps -/

/-- Settles O55: every state that meets the invariant steps to one that does, and it has one next
state. -/
theorem invariantKept : Obligations.InvariantKept := by
  refine ⟨fun s t hinv hstep => ?_, fun s hinv => ?_⟩
  · obtain ⟨u, hu, huinv⟩ := step_next_inv hinv
    rw [hstep] at hu
    cases hu
    exact huinv
  · obtain ⟨u, hu, -⟩ := step_next_inv hinv
    exact ⟨u, hu⟩

/-- Settles O56: reset is IDLE with IDX 0 and lists no byte of FRAME. -/
theorem resetMeetsTheInvariant : Obligations.ResetMeetsTheInvariant :=
  ⟨inv_of_idle rfl (Nat.zero_le 17), Memory.wf_nil⟩

theorem blockTurn_keeps_form_and_params {s t : State} (h : blockTurn s = .next t) :
    t.params = s.params ∧ (Memory.wf s.frame → Memory.wf t.frame) := by
  rcases blockTurn_cases h with
    ⟨-, rfl⟩ | ⟨hrst, hidle, -, hexec⟩ | ⟨-, -, -, rfl⟩ | ⟨-, -, -, rfl⟩ | ⟨-, -, w, -, rfl⟩
  · exact ⟨rfl, id⟩
  · obtain ⟨tup, rfl⟩ := accept_of_exec_decodeCmd hidle hrst hexec
    exact ⟨rfl, Memory.wf_storeFrame _⟩
  · exact ⟨rfl, id⟩
  · exact ⟨rfl, id⟩
  · obtain ⟨hparams, -, -, hframe, -⟩ := advance_frame (s.transfer w)
    exact ⟨hparams, fun hwf => hframe ▸ hwf⟩

/-- Settles O58: only the accept step writes FRAME, and it stores a whole frame. -/
theorem stepKeepsFormAndParameters : Obligations.StepKeepsFormAndParameters := by
  intro s t hstep
  obtain ⟨c, a, u, hblock, rfl⟩ := step_cases hstep
  exact blockTurn_keeps_form_and_params (s := s.served c a) (t := u) hblock

/-! ## Reset (10_state.md R37, 70_reset_and_hazards.md R230) -/

theorem outputs_of_idle {s : State} (hidle : s.state = .idle) : s.busy = false ∧ s.opValid = false := by
  simp [State.busy, State.opValid, hidle]

theorem outputs_of_reset {s : State} (hrst : s.pins.rst = true) :
    s.opValid = false ∧ s.busy = false ∧ s.cmdReady = false := by
  simp [State.opValid, State.busy, State.cmdReady, hrst]

/-- Settles O52: the block's turn of a reset step is `resetBlock` on what the service leaves. -/
theorem resetStep : Obligations.ResetStep := by
  intro s hrst
  obtain ⟨hvalid, hbusy, hready⟩ := outputs_of_reset hrst
  obtain ⟨c, a, hu⟩ := serviceTurn_served s
  have hstep : step s = .next (s.served c a).resetBlock.endStep := by
    rw [step_of_serviceTurn hu, blockTurn_of_reset (s := s.served c a) hrst]
    rfl
  exact ⟨hvalid, hbusy, hready, _, _, hu, hstep, rfl, rfl, rfl, rfl,
    fun hreleased => (State.cmdReady_iff _).mpr ⟨rfl, hreleased⟩⟩

/-- Settles O53: the fields by evaluation, the outputs from IDLE. -/
theorem resetValues : Obligations.ResetValues := by
  refine ⟨rfl, rfl, rfl, rfl, Memory.read_nil, fun script => ?_, rfl, rfl, rfl, rfl⟩
  obtain ⟨hbusy, hvalid⟩ := outputs_of_idle (s := { State.reset with script := script }) rfl
  exact ⟨hbusy, hvalid, fun hrst => (State.cmdReady_iff _).mpr ⟨rfl, hrst⟩⟩

end Sys2Proof.Machine

/-! One whole command: its op stream under every schedule of
op_ready (42_pulse_sequencer.md R183 to R186), the intervals it asks for (R189), and what the service has
put on the air (R188, R191 to R194). -/

namespace Sys2Proof.Machine

open Sys2Proof.Safety

/-! ## The op stream (42_pulse_sequencer.md R185, R186) -/

/-- Settles O45: the bursts' words are found by their place in a burst, the others by evaluation. -/
theorem commandStreamPositions : Obligations.CommandStreamPositions := by
  intro p f
  have burst (b : BitVec 1) {j : Nat} (hj : j < 20) := getElem?_commandStream_burst p f b hj
  obtain ⟨hgmark, hgspace⟩ := getElem?_commandStream_gap p f
  obtain ⟨hemark, hespace⟩ := getElem?_commandStream_end p f
  refine ⟨length_commandStream p f, rfl, burst 0 (j := 0) (by decide), burst 0 (j := 1) (by decide),
    fun k => ?_, hgmark, hgspace, burst 1 (j := 0) (by decide), burst 1 (j := 1) (by decide), hemark, hespace⟩
  have hk : 2 + k.val < 20 := by omega
  have hfirst : (commandStream p f)[3 + k.val]? = (burstWords p f)[2 + k.val]? := by
    rw [← burst 0 hk]
    congr 1
    simp only [BitVec.ofNat_eq_ofNat, BitVec.toNat_ofNat]
    omega
  have hsecond : (commandStream p f)[25 + k.val]? = (burstWords p f)[2 + k.val]? := by
    rw [← burst 1 hk]
    congr 1
    simp only [BitVec.ofNat_eq_ofNat, BitVec.toNat_ofNat]
    omega
  exact ⟨hfirst.trans (getElem?_burstWords_data p f k), hsecond.trans hfirst.symm⟩

/-- Settles O46: a stalled step keeps position and stream, a handshake moves both one word on. -/
theorem streamFollowsThePosition : Obligations.StreamFollowsThePosition := by
  refine ⟨fun s t hidle hrst hvalid hstep => ?_, fun base f s t hinv hholds hbusy hrst hstream hstep => ?_⟩
  · obtain ⟨c, a, haccept⟩ := step_of_offer hidle hrst hvalid
    rw [hstep] at haccept
    cases haccept
    let tup := normalizeWord s.params s.pins.cmdWord s.var
    have hbegin := transmits_endStep (transmits_accept (s.served c a) tup)
    exact ⟨build s.params tup, hbegin.holds, isFrameOf_build s.params tup, hbegin.stream⟩
  · obtain ⟨w, hw, hnext⟩ := presentedWord_eq_stream hinv hholds hbusy
    cases hready : s.pins.opReady with
    | false =>
      obtain ⟨c, a, hheld⟩ := step_of_stall (opWord_eq_some_iff.mpr ⟨hrst, hw⟩) hready
      rw [hstep] at hheld
      cases hheld
      exact ⟨hstream, hholds, rfl, rfl⟩
    | true =>
      obtain ⟨c, a, hmoved⟩ := step_of_handshake hrst hw hready
      rw [hstep] at hmoved
      cases hmoved
      obtain ⟨hparams, -, htuple, hframe, -⟩ := advance_frame ((s.served c a).transfer w)
      have hstream' : StreamAt base f ((s.served c a).transfer w).advance :=
        streamAt_transfer (s := s.served c a) hinv hbusy hstream hnext
      exact ⟨hstream', fun k => (congrArg (Memory.read · k.val) hframe).trans (hholds k), hparams, htuple⟩

/-! ## The intervals of a command (42_pulse_sequencer.md R189) -/

/-- Settles O43: exec of SPACE is one `emit`. -/
theorem spaceEmitsSilence : Obligations.SpaceEmitsSilence := fun _ _ => rfl

/-- The intervals are n pairs of a mark and a space. -/
def MarkSpacePairs (n : Nat) (xs : List Pulse) : Prop :=
  xs.map Pulse.isMark = (List.replicate n [true, false]).flatten

theorem markSpacePairs_append {m n : Nat} {xs ys : List Pulse} (hxs : MarkSpacePairs m xs)
    (hys : MarkSpacePairs n ys) : MarkSpacePairs (m + n) (xs ++ ys) := by
  rw [MarkSpacePairs, List.map_append, hxs, hys, ← List.replicate_append_replicate, List.flatten_append]

theorem getElem?_flatten_pairs (n i : Nat) :
    (List.replicate n [true, false]).flatten[i]? = if i < 2 * n then some (decide (i % 2 = 0)) else none := by
  induction n generalizing i with
  | zero => simp
  | succ n ih =>
    rw [List.replicate_succ, List.flatten_cons]
    match i with
    | 0 => simp
    | 1 => simp; omega
    | i + 2 =>
      have hlt : i + 2 < 2 * (n + 1) ↔ i < 2 * n := by omega
      simp [ih, hlt]

namespace MarkSpacePairs

variable {n : Nat} {xs : List Pulse}

theorem length_eq (h : MarkSpacePairs n xs) : xs.length = 2 * n := by
  have hlen := congrArg List.length h
  simpa [Nat.mul_comm] using hlen

theorem isMark_getElem? (h : MarkSpacePairs n xs) {i : Nat} {x : Pulse} (hx : xs[i]? = some x) :
    x.isMark = decide (i % 2 = 0) := by
  have hi : (xs.map Pulse.isMark)[i]? = some x.isMark := by rw [List.getElem?_map, hx, Option.map_some]
  rw [h, getElem?_flatten_pairs] at hi
  split at hi
  · exact (Option.some.inj hi).symm
  · cases hi

theorem countP_marks (h : MarkSpacePairs n xs) : xs.countP (fun x => x.isMark) = n := by
  have hmap : xs.countP (fun x => x.isMark) = (xs.map Pulse.isMark).countP id := by
    rw [List.countP_map]
    rfl
  rw [hmap, h, List.countP_flatten]
  simp

theorem countP_spaces (h : MarkSpacePairs n xs) : xs.countP (fun x => !x.isMark) = n := by
  have hmap : xs.countP (fun x => !x.isMark) = (xs.map Pulse.isMark).countP not := by
    rw [List.countP_map]
    rfl
  rw [hmap, h, List.countP_flatten]
  simp

end MarkSpacePairs

/-- The intervals of a stream are those of its first op and of the rest. -/
theorem streamPulses_of_encode_cons (order : BitOrder) {i : Instr} {w : OpWord} (h : encode i = .op w)
    (ws : List OpWord) : streamPulses order (w :: ws) = instrPulses order i ++ streamPulses order ws := by
  rw [streamPulses, List.flatMap_cons, decode_of_encode_op h, streamPulses]

theorem streamPulses_mark_space (order : BitOrder) (m s : Micros) (ws : List OpWord) :
    streamPulses order (OpWord.mark m :: OpWord.space s :: ws) =
      [.mark m, .space s] ++ streamPulses order ws := by
  rw [streamPulses_of_encode_cons order (i := .mark m) rfl,
    streamPulses_of_encode_cons order (i := .space s) rfl]
  rfl

/-- A byte is sent as eight pairs. -/
theorem markSpacePairs_sendbytes (order : BitOrder) (bm zs os : Micros) (bs : List Byte) :
    MarkSpacePairs (8 * bs.length) (streamPulses order (bs.map fun b => OpWord.sendbyte b bm zs os)) := by
  induction bs with
  | nil => rfl
  | cons b bs ih =>
    have hbyte : MarkSpacePairs 8 (bytePulses order b bm zs os) := rfl
    have hcount : 8 * (b :: bs).length = 8 + 8 * bs.length := by rw [List.length_cons]; omega
    rw [hcount, List.map_cons, streamPulses_of_encode_cons order (i := .sendbyte b bm zs os) rfl]
    exact markSpacePairs_append hbyte ih

/-- A burst is a header pair and eight pairs for each of the 18 bytes. -/
theorem markSpacePairs_burst (order : BitOrder) (p : Params) (f : Frame) :
    MarkSpacePairs 145 (streamPulses order (burstWords p f)) := by
  have hbytes := markSpacePairs_sendbytes order p.bitMarkUs p.zeroSpaceUs p.oneSpaceUs f.toList
  rw [Vector.length_toList] at hbytes
  have hheader : MarkSpacePairs 1 [.mark p.hdrMarkUs, .space p.hdrSpaceUs] := rfl
  rw [burstWords, streamPulses_mark_space]
  exact markSpacePairs_append hheader hbytes

/-- A command's intervals: nothing for SETFREQ, a burst, the gap, the burst again and the end pair. -/
theorem streamPulses_commandStream (order : BitOrder) (p : Params) (f : Frame) :
    streamPulses order (commandStream p f) =
      streamPulses order (burstWords p f) ++ [.mark p.bitMarkUs, .space p.msgSpaceUs] ++
        streamPulses order (burstWords p f) ++ [.mark p.bitMarkUs, .space 0] := by
  have hfreq : streamPulses order [OpWord.setfreq 40] = [] :=
    streamPulses_of_encode_cons order (i := .setfreq 40) rfl []
  rw [commandStream, streamPulses_append, streamPulses_append, streamPulses_append, streamPulses_append,
    hfreq, streamPulses_mark_space, streamPulses_mark_space, List.nil_append]
  rfl

theorem markSpacePairs_commandStream (order : BitOrder) (p : Params) (f : Frame) :
    MarkSpacePairs 292 (streamPulses order (commandStream p f)) := by
  have hburst := markSpacePairs_burst order p f
  have hgap : MarkSpacePairs 1 [.mark p.bitMarkUs, .space p.msgSpaceUs] := rfl
  have hend : MarkSpacePairs 1 [.mark p.bitMarkUs, .space 0] := rfl
  rw [streamPulses_commandStream]
  exact markSpacePairs_append (markSpacePairs_append (markSpacePairs_append hburst hgap) hburst) hend

theorem getLast?_streamPulses_commandStream (order : BitOrder) (p : Params) (f : Frame) :
    (streamPulses order (commandStream p f)).getLast? = some (.space 0) := by
  rw [streamPulses_commandStream, List.getLast?_append]
  rfl

/-- Settles O49: two bursts of 145 pairs, the gap's and the end's. -/
theorem pulseCounts : Obligations.PulseCounts := by
  intro p f order
  have hpairs := markSpacePairs_commandStream order p f
  have hlen := hpairs.length_eq
  have hlast := getLast?_streamPulses_commandStream order p f
  rw [List.getLast?_eq_getElem?, hlen] at hlast
  exact ⟨hlen, fun i x => hpairs.isMark_getElem?, hpairs.countP_marks, hpairs.countP_spaces, hlast⟩

/-! ## The service over a run (42_pulse_sequencer.md R188, R191 to R194)

The service lags one op behind the stream. What it will have done once it has performed the op it holds
grows with the stream, whatever the block does. -/

/-- The carrier after an operation. -/
def instrCarrier : Instr → Option Byte → Option Byte
  | .setfreq khz, _ => some khz
  | _, carrier => carrier

/-- The carrier after a stream of op words. -/
def streamCarrier (carrier : Option Byte) (ws : List OpWord) : Option Byte :=
  ws.foldl (fun c w => instrCarrier (decode (.op w)) c) carrier

/-- The carrier once the service has performed what it holds. -/
def State.dueCarrier (s : State) : Option Byte := streamCarrier s.carrier s.accepted.toList

/-- The intervals on the air once the service has performed what it holds. -/
def State.dueAir (s : State) : List Pulse :=
  s.air ++ streamPulses s.params.bitOrder s.accepted.toList

theorem dueCarrier_of_none {s : State} (h : s.accepted = none) : s.dueCarrier = s.carrier := by
  simp [State.dueCarrier, h, streamCarrier]

theorem dueAir_of_none {s : State} (h : s.accepted = none) : s.dueAir = s.air := by
  simp [State.dueAir, h, streamPulses]

theorem streamCarrier_append (carrier : Option Byte) (ws vs : List OpWord) :
    streamCarrier carrier (ws ++ vs) = streamCarrier (streamCarrier carrier ws) vs :=
  List.foldl_append

/-- An op leaves its carrier and its intervals, and nothing else. -/
theorem exec_decodeOp (w : OpWord) (s : State) :
    exec (decode (.op w)) s = .next
      { s with
        carrier := instrCarrier (decode (.op w)) s.carrier
        air := s.air ++ instrPulses s.params.bitOrder (decode (.op w)) } := by
  simp only [decode, decodeOp]
  split
  · simp [exec_setfreq, State.setCarrier, instrCarrier, instrPulses]
  all_goals rfl

/-- The service's turn performs what it holds. -/
theorem serviceTurn_due (s : State) : serviceTurn s = .next (s.served s.dueCarrier s.dueAir) := by
  cases h : s.accepted with
  | none =>
    have hsame : s.served s.carrier s.air = s := by simp [State.served, ← h]
    rw [serviceTurn_of_none h, dueCarrier_of_none h, dueAir_of_none h, hsame]
  | some w =>
    rw [serviceTurn_of_some h, exec_decodeOp]
    simp [State.served, State.clearAccepted, State.dueCarrier, State.dueAir, h, streamCarrier, streamPulses]

/-- From s to t the service has been handed the op words ws, and what it has done or is about to do has
grown by them. -/
structure Performs (s t : State) (ws : List OpWord) : Prop where
  params : t.params = s.params
  opStream : t.opStream = s.opStream ++ ws
  carrier : t.dueCarrier = streamCarrier s.dueCarrier ws
  air : t.dueAir = s.dueAir ++ streamPulses s.params.bitOrder ws

theorem performs_refl (s : State) : Performs s s [] where
  params := rfl
  opStream := (List.append_nil _).symm
  carrier := rfl
  air := (List.append_nil _).symm

theorem performs_trans {s t u : State} {ws vs : List OpWord} (hst : Performs s t ws) (htu : Performs t u vs) :
    Performs s u (ws ++ vs) where
  params := htu.params.trans hst.params
  opStream := by rw [htu.opStream, hst.opStream, List.append_assoc]
  carrier := by rw [htu.carrier, hst.carrier, streamCarrier_append]
  air := by rw [htu.air, hst.air, hst.params, List.append_assoc, ← streamPulses_append]

theorem performs_service (s : State) : Performs s (s.served s.dueCarrier s.dueAir) [] where
  params := rfl
  opStream := (List.append_nil _).symm
  carrier := rfl
  air := rfl

/-- A turn that leaves the service, the op stream and the parameters alone hands over nothing. -/
theorem performs_of_same_service {s t : State} (hparams : t.params = s.params)
    (hstream : t.opStream = s.opStream) (haccepted : t.accepted = s.accepted) (hcarrier : t.carrier = s.carrier)
    (hair : t.air = s.air) : Performs s t [] where
  params := hparams
  opStream := by rw [hstream, List.append_nil]
  carrier := by simp [State.dueCarrier, haccepted, hcarrier, streamCarrier]
  air := by simp [State.dueAir, haccepted, hair, hparams, streamPulses]

/-- A handshake hands one word to a service that holds none. -/
theorem performs_transfer {s : State} (w : OpWord) (hnone : s.accepted = none) :
    Performs s (s.transfer w) [w] where
  params := rfl
  opStream := rfl
  carrier := by rw [dueCarrier_of_none hnone]; rfl
  air := by rw [dueAir_of_none hnone]; rfl

theorem performs_blockTurn {s t : State} (hnone : s.accepted = none) (h : blockTurn s = .next t) :
    ∃ ws, Performs s t ws := by
  rcases blockTurn_cases h with
    ⟨-, rfl⟩ | ⟨hrst, hidle, -, hexec⟩ | ⟨-, -, -, rfl⟩ | ⟨-, -, -, rfl⟩ | ⟨-, -, w, -, rfl⟩
  · exact ⟨[], performs_of_same_service rfl rfl rfl rfl rfl⟩
  · obtain ⟨tup, rfl⟩ := accept_of_exec_decodeCmd hidle hrst hexec
    exact ⟨[], performs_of_same_service rfl rfl rfl rfl rfl⟩
  · exact ⟨[], performs_refl _⟩
  · exact ⟨[], performs_refl _⟩
  · obtain ⟨hparams, -, -, -, hstream, haccepted, hcarrier, hair, -⟩ := advance_frame (s.transfer w)
    exact ⟨_, performs_trans (performs_transfer w hnone)
      (performs_of_same_service hparams hstream haccepted hcarrier hair)⟩

theorem performs_step {s t : State} (h : step s = .next t) : ∃ ws, Performs s t ws := by
  rw [step_of_serviceTurn (serviceTurn_due s)] at h
  obtain ⟨u, hblock, hend⟩ := andThen_eq_next h
  cases hend
  obtain ⟨ws, hws⟩ := performs_blockTurn (s := s.served s.dueCarrier s.dueAir) rfl hblock
  have hfinish : Performs u u.endStep [] := performs_of_same_service rfl rfl rfl rfl rfl
  exact ⟨_, performs_trans (performs_trans (performs_service s) hws) hfinish⟩

/-- A run that answers took its first step. -/
theorem core_run_succ_eq_next (M : Host.Core) {n : Nat} {s t : M.State} (h : M.run (n + 1) s = .next t) :
    ∃ u, M.step s = .next u ∧ M.run n u = .next t := by
  rw [Host.Core.run] at h
  split at h
  · next u hstep => exact ⟨u, hstep, h⟩
  · cases h
  · cases h

theorem run_succ_eq_next {n : Nat} {s t : State} (h : Host.Core.run Sys2Proof.core (n + 1) s = .next t) :
    ∃ u, step s = .next u ∧ Host.Core.run Sys2Proof.core n u = .next t :=
  core_run_succ_eq_next Sys2Proof.core h

theorem performs_run (n : Nat) {s t : State} (h : Host.Core.run Sys2Proof.core n s = .next t) :
    ∃ ws, Performs s t ws := by
  induction n generalizing s with
  | zero =>
    cases h
    exact ⟨[], performs_refl _⟩
  | succ n ih =>
    obtain ⟨u, hstep, hrun⟩ := run_succ_eq_next h
    obtain ⟨ws, hfirst⟩ := performs_step hstep
    obtain ⟨vs, hrest⟩ := ih hrun
    exact ⟨_, performs_trans hfirst hrest⟩

/-- A run goes on from where its first m steps end. -/
theorem run_add (m n : Nat) {s t : State} (h : Host.Core.run Sys2Proof.core m s = .next t) :
    Host.Core.run Sys2Proof.core (m + n) s = Host.Core.run Sys2Proof.core n t := by
  induction m generalizing s with
  | zero =>
    cases h
    rw [Nat.zero_add]
  | succ m ih =>
    obtain ⟨u, hstep, hrun⟩ := run_succ_eq_next h
    rw [Nat.succ_add, run_succ (m + n) hstep, ih hrun]

theorem streamCarrier_of_encode_cons (carrier : Option Byte) {i : Instr} {w : OpWord} (h : encode i = .op w)
    (ws : List OpWord) : streamCarrier carrier (w :: ws) = streamCarrier (instrCarrier i carrier) ws := by
  rw [streamCarrier, List.foldl_cons, decode_of_encode_op h, streamCarrier]

theorem streamCarrier_mark_space (carrier : Option Byte) (m s : Micros) (ws : List OpWord) :
    streamCarrier carrier (OpWord.mark m :: OpWord.space s :: ws) = streamCarrier carrier ws := by
  rw [streamCarrier_of_encode_cons carrier (i := .mark m) rfl,
    streamCarrier_of_encode_cons _ (i := .space s) rfl]
  rfl

theorem streamCarrier_sendbytes (carrier : Option Byte) (bm zs os : Micros) (bs : List Byte) :
    streamCarrier carrier (bs.map fun b => OpWord.sendbyte b bm zs os) = carrier := by
  induction bs with
  | nil => rfl
  | cons b bs ih =>
    rw [List.map_cons, streamCarrier_of_encode_cons carrier (i := .sendbyte b bm zs os) rfl]
    exact ih

theorem streamCarrier_burst (carrier : Option Byte) (p : Params) (f : Frame) :
    streamCarrier carrier (burstWords p f) = carrier := by
  rw [burstWords, streamCarrier_mark_space, streamCarrier_sendbytes]

/-- Of a command's ops only the first sets the carrier. -/
theorem streamCarrier_commandStream (carrier : Option Byte) (p : Params) (f : Frame) :
    streamCarrier carrier (commandStream p f) = some 40 := by
  have hfreq : streamCarrier carrier [OpWord.setfreq 40] = some 40 :=
    streamCarrier_of_encode_cons carrier (i := .setfreq 40) rfl []
  simp only [commandStream, streamCarrier_append, hfreq, streamCarrier_burst, streamCarrier_mark_space]
  rfl

/-- A step in which nothing is offered to the idle block is the service's turn alone. -/
theorem step_of_quiet {s : State} (hidle : s.state = .idle) (hrst : s.pins.rst = false)
    (hvalid : s.pins.cmdValid = false) : step s = .next (s.served s.dueCarrier s.dueAir).endStep := by
  rw [step_of_serviceTurn (serviceTurn_due s),
    blockTurn_of_quiet (s := s.served s.dueCarrier s.dueAir) hidle hrst hvalid]
  rfl

/-- Settles O48: the 45 words of the run are all that the service has been handed, and the quiet step
performs the last of them. -/
theorem wholeCommandReachesTheAir : Obligations.WholeCommandReachesTheAir := by
  intro s p0 q ps rest hidle hnone hrst hvalid hlen hps hqrst hqvalid hscript
  obtain ⟨t, f, hrun, htuple, hframe, -, hstream, htidle, -, -, -, -, hrest⟩ :=
    wholeCommandEmitsTheStream s p0 ps (q :: rest) hidle hrst hvalid hlen hps hscript
  obtain ⟨ws, hperforms⟩ := performs_run 46 hrun
  have hws : ws = commandStream s.params f := List.append_cancel_left (hperforms.opStream.symm.trans hstream)
  have hcarrier : t.dueCarrier = some 40 := by
    rw [hperforms.carrier, hws, streamCarrier_commandStream]
  have hair : t.dueAir = s.air ++ streamPulses s.params.bitOrder (commandStream s.params f) := by
    rw [hperforms.air, hws, dueAir_of_none hnone]
  have hpins : t.pins = q := pins_of_script hrest
  have hquiet := step_of_quiet htidle (by rw [hpins, hqrst]) (by rw [hpins, hqvalid])
  exact ⟨_, f, (run_add 46 1 hrun).trans (run_succ 0 hquiet), htuple ▸ hframe, hair, hcarrier, rfl, htidle⟩

end Sys2Proof.Machine

/-! The sequencer state by state: the accept step and IDLE, what
each state presents and where its handshake leads, and from where each is entered
(42_pulse_sequencer.md R170 to R182). -/

namespace Sys2Proof.Machine

open Sys2Proof.Safety

/-! ## The steps out of a handshake, a stall and an offer, with the service's turn named -/

theorem step_of_turns {s u v : State} (hservice : serviceTurn s = .next u) (hblock : blockTurn u = .next v) :
    step s = .next v.endStep := by
  rw [step_of_serviceTurn hservice, hblock]
  rfl

/-- What a state that presents w does, as R171 has it. -/
theorem step_of_opWord {s : State} {w : OpWord} (h : s.opWord = some w) :
    ∃ c a, serviceTurn s = .next (s.served c a) ∧
      (s.pins.opReady = false → step s = .next (s.served c a).endStep) ∧
      (s.pins.opReady = true → step s = .next ((s.served c a).transfer w).advance.endStep) := by
  obtain ⟨hrst, hw⟩ := opWord_eq_some_iff.mp h
  obtain ⟨c, a, hu⟩ := serviceTurn_served s
  exact ⟨c, a, hu, fun hstall => step_of_turns hu (blockTurn_of_stall (s := s.served c a) h hstall),
    fun hready => step_of_turns hu (blockTurn_of_handshake (s := s.served c a) hrst hw hready)⟩

/-- Settles O32: the move after the handshake keeps the op stream with the word added. -/
theorem opStepTransfersOnce : Obligations.OpStepTransfersOnce := by
  intro s w h
  obtain ⟨c, a, hu, hstall, hready⟩ := step_of_opWord h
  obtain ⟨-, -, -, -, hstream, -⟩ := advance_frame ((s.served c a).transfer w)
  exact ⟨_, hu, hstall, fun h => ⟨hready h, hstream⟩⟩

/-! ## The control position after a step -/

/-- The control position (10_state.md R32). -/
structure Control where
  state : SeqState
  burst : BitVec 1
  idx : BitVec 5

def State.control (s : State) : Control := ⟨s.state, s.burst, s.idx⟩

@[simp] theorem control_state (s : State) : s.control.state = s.state := rfl
@[simp] theorem control_burst (s : State) : s.control.burst = s.burst := rfl
@[simp] theorem control_idx (s : State) : s.control.idx = s.idx := rfl

/-- Where a step with inputs p can take the control position: reset, accepting and holding, and every row
of R182. -/
inductive ControlStep (p : Pins) (s t : Control) : Prop
  | reset (hrst : p.rst = true) (hstate : t.state = .idle) (hburst : t.burst = 0) (hidx : t.idx = 0)
  | accept (hidle : s.state = .idle) (hrst : p.rst = false) (hvalid : p.cmdValid = true)
      (hstate : t.state = .sFreq) (hburst : t.burst = 0) (hidx : t.idx = 0)
  | hold (hstate : t.state = s.state) (hburst : t.burst = s.burst) (hidx : t.idx = s.idx)
  | freq (hfrom : s.state = .sFreq) (hstate : t.state = .sHmark) (hburst : t.burst = s.burst)
      (hidx : t.idx = s.idx)
  | headerMark (hfrom : s.state = .sHmark) (hstate : t.state = .sHspace) (hburst : t.burst = s.burst)
      (hidx : t.idx = s.idx)
  | headerSpace (hfrom : s.state = .sHspace) (hstate : t.state = .sData) (hburst : t.burst = s.burst)
      (hidx : t.idx = 0)
  | dataNext (hfrom : s.state = .sData) (hlt : s.idx.toNat < 17) (hstate : t.state = .sData)
      (hburst : t.burst = s.burst) (hidx : t.idx = s.idx + 1)
  | dataToGap (hfrom : s.state = .sData) (hfirst : s.burst = 0) (hstate : t.state = .sGmark)
      (hburst : t.burst = s.burst) (hidx : t.idx = s.idx)
  | dataToEnd (hfrom : s.state = .sData) (hsecond : s.burst = 1) (hstate : t.state = .sEmark)
      (hburst : t.burst = s.burst) (hidx : t.idx = s.idx)
  | gapMark (hfrom : s.state = .sGmark) (hstate : t.state = .sGspace) (hburst : t.burst = s.burst)
      (hidx : t.idx = s.idx)
  | gapSpace (hfrom : s.state = .sGspace) (hstate : t.state = .sHmark) (hburst : t.burst = 1)
      (hidx : t.idx = s.idx)
  | endMark (hfrom : s.state = .sEmark) (hstate : t.state = .sEspace) (hburst : t.burst = s.burst)
      (hidx : t.idx = s.idx)
  | endSpace (hfrom : s.state = .sEspace) (hstate : t.state = .idle) (hburst : t.burst = s.burst)
      (hidx : t.idx = s.idx)

theorem controlStep_advanceData {s : State} (h : s.state = .sData) :
    ControlStep s.pins s.control s.advanceData.control := by
  by_cases hlt : s.idx.toNat < 17
  · rw [advanceData_of_lt hlt]
    exact .dataNext h hlt h rfl rfl
  · by_cases hburst : s.burst = 0
    · rw [advanceData_of_first_burst hlt hburst]
      exact .dataToGap h hburst rfl rfl rfl
    · have hsecond : s.burst = 1 := by bv_omega
      rw [advanceData_of_second_burst hlt hburst]
      exact .dataToEnd h hsecond rfl rfl rfl

theorem controlStep_advance (s : State) : ControlStep s.pins s.control s.advance.control := by
  unfold State.advance
  split
  next => exact .hold rfl rfl rfl
  next h => exact .freq h rfl rfl rfl
  next h => exact .headerMark h rfl rfl rfl
  next h => exact .headerSpace h rfl rfl rfl
  next h => exact controlStep_advanceData h
  next h => exact .gapMark h rfl rfl rfl
  next h => exact .gapSpace h rfl rfl rfl
  next h => exact .endMark h rfl rfl rfl
  next h => exact .endSpace h rfl rfl rfl
  next => exact .hold rfl rfl rfl

theorem blockTurn_controlStep {s t : State} (h : blockTurn s = .next t) :
    ControlStep s.pins s.control t.control := by
  rcases blockTurn_cases h with
    ⟨hrst, rfl⟩ | ⟨hrst, hidle, hvalid, hexec⟩ | ⟨-, -, -, rfl⟩ | ⟨-, -, -, rfl⟩ | ⟨-, -, w, -, rfl⟩
  · exact .reset hrst rfl rfl rfl
  · obtain ⟨tup, rfl⟩ := accept_of_exec_decodeCmd hidle hrst hexec
    exact .accept hidle hrst hvalid rfl rfl rfl
  · exact .hold rfl rfl rfl
  · exact .hold rfl rfl rfl
  · exact controlStep_advance (s.transfer w)

theorem step_controlStep {s t : State} (h : step s = .next t) : ControlStep s.pins s.control t.control := by
  obtain ⟨c, a, u, hblock, rfl⟩ := step_cases h
  exact blockTurn_controlStep (s := s.served c a) (t := u) hblock

/-! ## What each state presents and where its handshake leads -/

/-- A state presents w and its handshake leads to (q, b, k): what remains of `OpRuns` is the common op
step. -/
theorem opRuns_of_advance {s : State} {w : OpWord} {q : SeqState} {b : BitVec 1} {k : BitVec 5}
    (hrst : s.pins.rst = false) (hw : s.presentedWord = .ok (some w))
    (hadvance : ∀ c a, ((s.served c a).transfer w).advance =
      { (s.served c a).transfer w with state := q, burst := b, idx := k }) : OpRuns s w q b k := by
  have hoffered : s.opWord = some w := opWord_eq_some_iff.mpr ⟨hrst, hw⟩
  obtain ⟨c, a, hu, hstall, hready⟩ := step_of_opWord hoffered
  refine ⟨hoffered, _, hu, hstall, fun h => ?_⟩
  rw [hready h, hadvance]
  rfl

theorem advance_of_sFreq {s : State} (h : s.state = .sFreq) : s.advance = s.enter .sHmark := by
  simp [State.advance, h]

theorem advance_of_sHmark {s : State} (h : s.state = .sHmark) : s.advance = s.enter .sHspace := by
  simp [State.advance, h]

theorem advance_of_sHspace {s : State} (h : s.state = .sHspace) :
    s.advance = (s.setIdx 0).enter .sData := by
  simp [State.advance, h]

theorem advance_of_sData {s : State} (h : s.state = .sData) : s.advance = s.advanceData := by
  simp [State.advance, h]

theorem advance_of_sGmark {s : State} (h : s.state = .sGmark) : s.advance = s.enter .sGspace := by
  simp [State.advance, h]

theorem advance_of_sGspace {s : State} (h : s.state = .sGspace) :
    s.advance = (s.setBurst 1).enter .sHmark := by
  simp [State.advance, h]

theorem advance_of_sEmark {s : State} (h : s.state = .sEmark) : s.advance = s.enter .sEspace := by
  simp [State.advance, h]

theorem advance_of_sEspace {s : State} (h : s.state = .sEspace) : s.advance = s.enter .idle := by
  simp [State.advance, h]

/-- The command leaves IDLE for S_FREQ, whatever the command. -/
theorem sFreq_of_leaves_idle {s t : State} (hstep : step s = .next t) (hidle : s.state = .idle)
    (hleft : t.state ≠ .idle) : t.state = .sFreq := by
  cases step_controlStep hstep with
  | accept _ _ _ hstate => exact hstate
  | _ => simp_all

/-- Settles O33: S_FREQ's op and move, and the one state that IDLE is left for. -/
theorem freqStatePresentsCarrier : Obligations.FreqStatePresentsCarrier := by
  refine ⟨fun s h hrst => ?_, by decide, fun s t => sFreq_of_leaves_idle⟩
  exact opRuns_of_advance hrst (by simp [State.presentedWord, h, Config.carrierKhz])
    fun _ _ => advance_of_sFreq h

/-- Settles O34: S_HMARK follows S_FREQ, which the invariant has in burst 0, and S_GSPACE, whose handshake
begins burst 1. -/
theorem headerStates : Obligations.HeaderStates := by
  refine ⟨fun s h hrst => ?_, fun s t hinv hstep hmark hother => ?_, fun s h hrst => ?_⟩
  · exact opRuns_of_advance hrst (by simp [State.presentedWord, h]) fun _ _ => advance_of_sHmark h
  · obtain ⟨-, -, hburst0, -⟩ := hinv
    cases step_controlStep hstep with
    | freq hfrom _ hburst => exact .inl ⟨hfrom, hburst.trans (hburst0 (.inl hfrom))⟩
    | gapSpace hfrom _ hburst => exact .inr ⟨hfrom, hburst⟩
    | _ => simp_all
  · exact opRuns_of_advance hrst (by simp [State.presentedWord, h]) fun _ _ => advance_of_sHspace h

/-- Settles O36: S_GMARK follows the last byte of burst 0, and BURST is written by S_GSPACE's handshake,
by accepting and by reset alone. -/
theorem gapStates : Obligations.GapStates := by
  refine ⟨fun s h hrst => ?_, fun s t hstep hgap hother => ?_, fun s h hrst => ?_,
    fun s t hstep hgap hother => ?_, fun s t hstep hfirst hsecond => ?_, fun s t hstep hsecond hfirst => ?_⟩
  · exact opRuns_of_advance hrst (by simp [State.presentedWord, h]) fun _ _ => advance_of_sGmark h
  · cases step_controlStep hstep with
    | dataToGap hfrom hburst => exact ⟨hfrom, hburst⟩
    | _ => simp_all
  · exact opRuns_of_advance hrst (by simp [State.presentedWord, h]) fun _ _ => advance_of_sGspace h
  · cases step_controlStep hstep with
    | gapMark hfrom => exact hfrom
    | _ => simp_all
  · cases step_controlStep hstep with
    | gapSpace hfrom => exact hfrom
    | _ => simp_all
  · cases step_controlStep hstep with
    | reset hrst => exact .inl hrst
    | accept hidle _ hvalid => exact .inr ⟨hidle, hvalid⟩
    | _ => simp_all

theorem opRuns_sEspace {s : State} (h : s.state = .sEspace) (hrst : s.pins.rst = false) :
    OpRuns s (OpWord.space 0) .idle s.burst s.idx :=
  opRuns_of_advance hrst (by simp [State.presentedWord, h, Config.endSpaceUs]) fun _ _ => advance_of_sEspace h

/-- Settles O37: the handshake of SPACE 0 keeps the counters that the invariant gives S_ESPACE. -/
theorem endMarkStates : Obligations.EndMarkStates := by
  refine ⟨fun s h hrst => ?_, fun s t hstep hend hother => ?_, fun s h hrst => opRuns_sEspace h hrst,
    fun s t hinv h hrst hready hstep => ?_⟩
  · exact opRuns_of_advance hrst (by simp [State.presentedWord, h]) fun _ _ => advance_of_sEmark h
  · cases step_controlStep hstep with
    | dataToEnd hfrom hburst => exact ⟨hfrom, hburst⟩
    | _ => simp_all
  · obtain ⟨-, -, -, hburst1, hidx17, -⟩ := hinv
    obtain ⟨hoffered, u, -, -, hruns⟩ := opRuns_sEspace h hrst
    obtain ⟨hbusy, -⟩ := busy_of_opWord hoffered
    rw [hstep] at hruns
    cases hruns hready
    exact ⟨hbusy, (outputs_of_idle rfl).1, hburst1 (.inr h), hidx17 (.inr (.inr (.inr h)))⟩

/-! ### S_DATA (R177) -/

theorem advance_to_next_byte {s : State} (h : s.state = .sData) (hlt : s.idx.toNat < 17) :
    s.advance = { s with state := .sData, idx := s.idx + 1 } := by
  rw [advance_of_sData h, advanceData_of_lt hlt, State.setIdx, ← h]

theorem advance_to_gap {s : State} (h : s.state = .sData) (hlast : s.idx = 17) (hburst : s.burst = 0) :
    s.advance = s.enter .sGmark := by
  rw [advance_of_sData h, advanceData_of_first_burst (by simp [hlast]) hburst]

theorem advance_to_end {s : State} (h : s.state = .sData) (hlast : s.idx = 17) (hburst : s.burst = 1) :
    s.advance = s.enter .sEmark := by
  rw [advance_of_sData h, advanceData_of_second_burst (by simp [hlast]) (by simp [hburst])]

theorem fetch_of_read {m : Memory} {k : Nat} {b : Byte} (hk : k ≤ 17) (h : Memory.read m k = some b) :
    Memory.fetch m k = .ok b := by
  simp [Memory.fetch, Nat.not_lt.2 hk, h]

theorem presentedWord_of_read {s : State} {b : Byte} (h : s.state = .sData) (hidx : s.idx.toNat ≤ 17)
    (hread : Memory.read s.frame s.idx.toNat = some b) :
    s.presentedWord = .ok
      (some (OpWord.sendbyte b s.params.bitMarkUs s.params.zeroSpaceUs s.params.oneSpaceUs)) := by
  rw [presentedWord_of_sData h, fetch_of_read hidx hread]
  rfl

/-- Outside maintenance byte 7 of a built frame is T less 16 (41_frame_builder.md R142). -/
theorem read_byte7_of_frameBuilt {p : Params} {tup : Tuple} {m : Memory} (h : FrameBuilt p tup m)
    (ht : tup.t ≠ 10) : Memory.read m 7 = some (tup.t - 16) := by
  obtain ⟨f, hholds, -, -, -, -, -, hnormal, -⟩ := h
  obtain ⟨hbyte, -⟩ := hnormal ht
  exact (hholds 7).trans (congrArg some hbyte)

theorem idx_le_of_step {s t : State} (hidx : s.idx.toNat ≤ 17) (hstep : step s = .next t) :
    t.idx.toNat ≤ 17 := by
  cases step_controlStep hstep with
  | dataNext _ hlt _ _ hnext =>
    simp only [control_idx] at hlt hnext
    rw [hnext]
    bv_omega
  | _ => simp_all

/-- Settles O35: the byte at IDX is presented, IDX counts to 17, and the burst decides what follows. -/
theorem dataStateSendsTheFrame : Obligations.DataStateSendsTheFrame := by
  refine ⟨fun s b h hrst hread => ⟨fun hlt => ?_, fun hlast hburst => ?_, fun hlast hburst => ?_⟩,
    fun s t hstep hdata hother => ?_, fun s t => idx_le_of_step, fun s hinv h hrst _ hidx ht => ?_⟩
  · exact opRuns_of_advance hrst (presentedWord_of_read h hlt.le hread) fun _ _ => advance_to_next_byte h hlt
  · exact opRuns_of_advance hrst (presentedWord_of_read h (by simp [hlast]) hread) fun _ _ =>
      advance_to_gap h hlast hburst
  · exact opRuns_of_advance hrst (presentedWord_of_read h (by simp [hlast]) hread) fun _ _ =>
      advance_to_end h hlast hburst
  · cases step_controlStep hstep with
    | headerSpace hfrom _ _ hidx => exact ⟨hfrom, hidx⟩
    | _ => simp_all
  · obtain ⟨-, -, -, -, -, hbuilt⟩ := hinv
    have hbyte := read_byte7_of_frameBuilt (hbuilt (by simp [h])) (by simp [ht])
    rw [ht] at hbyte
    exact opWord_eq_some_iff.mpr ⟨hrst, presentedWord_of_read h (by simp [hidx]) (by rw [hidx]; exact hbyte)⟩

/-! ## The accept step (42_pulse_sequencer.md R173) -/

/-- The only step that leaves IDLE, or writes FRAME, accepts a command: reset and a held turn write
neither, a handshake keeps FRAME and is not of IDLE. -/
theorem blockTurn_accepts_of_change {s t : State} (h : blockTurn s = .next t)
    (hchange : s.state = .idle ∧ t.state ≠ .idle ∨ t.frame ≠ s.frame) :
    s.state = .idle ∧ s.pins.rst = false ∧ s.pins.cmdValid = true := by
  rcases blockTurn_cases h with
    ⟨-, rfl⟩ | ⟨hrst, hidle, hvalid, -⟩ | ⟨-, -, -, rfl⟩ | ⟨-, -, -, rfl⟩ | ⟨-, -, w, hw, rfl⟩
  · simp at hchange
  · exact ⟨hidle, hrst, hvalid⟩
  · simp at hchange
  · simp at hchange
  · obtain ⟨-, -, -, hframe, -⟩ := advance_frame (s.transfer w)
    have hbusy := state_ne_idle_of_presents hw
    simp [hframe, hbusy] at hchange

theorem normalizeWord_temp_example (p : Params) (v : Variant) : (normalizeWord p 0x1705 v).t = 23 := by
  rw [← wordTuple_eq_normalizeWord,
    wordTuple_t_ordinary p (fun h => absurd h.1 (by decide)) (by decide)]
  exact validTemp_caller p.tempRange (by decide)

/-- An accepting step with the service's turn named. -/
theorem turns_of_offer {s : State} (hidle : s.state = .idle) (hrst : s.pins.rst = false)
    (hvalid : s.pins.cmdValid = true) : ∃ c a, serviceTurn s = .next (s.served c a) ∧
      step s = .next ((s.served c a).accept (normalizeWord s.params s.pins.cmdWord s.var)).endStep := by
  obtain ⟨c, a, hu⟩ := serviceTurn_served s
  exact ⟨c, a, hu, step_of_turns hu (blockTurn_of_offer (s := s.served c a) hidle hrst hvalid)⟩

/-- Settles O30: the service's turn keeps what the accept step reads, and `accepts_accept` says what it
writes. -/
theorem acceptStep : Obligations.AcceptStep := by
  refine ⟨fun s hidle hrst hvalid => ?_, fun s t h hchange => ?_, fun s hidle hrst hvalid hword => ?_⟩
  · obtain ⟨c, a, hu, ht⟩ := turns_of_offer hidle hrst hvalid
    obtain ⟨-, hbuilt, houtside, -⟩ :=
      accepts_accept (s.served c a) (normalizeWord s.params s.pins.cmdWord s.var)
    obtain ⟨hbusy, -⟩ := outputs_of_idle hidle
    refine ⟨_, _, hu, ht, rfl, hbusy, fun hreleased => ?_, rfl, hbuilt, houtside, rfl, rfl⟩
    simp [State.busy, hreleased]
  · obtain ⟨c, a, u, hblock, rfl⟩ := step_cases h
    exact blockTurn_accepts_of_change (s := s.served c a) (t := u) hblock hchange
  · obtain ⟨c, a, -, ht⟩ := turns_of_offer hidle hrst hvalid
    have htemp := normalizeWord_temp_example s.params s.var
    have hbyte := read_byte7_of_frameBuilt
      (frameBuilt_accept (s.served c a) (normalizeWord s.params 0x1705 s.var))
      (by rw [State.accept_tuple, htemp]; decide)
    rw [State.accept_tuple, htemp] at hbyte
    rw [hword] at ht
    exact ⟨_, ht, rfl, hbyte⟩

/-! ## IDLE (42_pulse_sequencer.md R172) -/

/-- As long as nothing is offered to the idle block, a run changes only the inputs, their count and the
service itself. -/
theorem run_of_quiet {rest : List Pins} (ps : List Pins) {s : State} (hidle : s.state = .idle)
    (hps : ∀ p ∈ ps, p.rst = false ∧ p.cmdValid = false) (hscript : s.script = ps ++ rest) :
    ∃ acc c a n, Host.Core.run Sys2Proof.core ps.length s = .next
      { s with accepted := acc, carrier := c, air := a, script := rest, tick := n } := by
  induction ps generalizing s with
  | nil =>
    obtain rfl : s.script = rest := hscript
    exact ⟨s.accepted, s.carrier, s.air, s.tick, rfl⟩
  | cons p ps ih =>
    have hpins : s.pins = p := pins_of_script hscript
    obtain ⟨hrst, hvalid⟩ := hps p List.mem_cons_self
    have hstep := step_of_quiet hidle (by rw [hpins, hrst]) (by rw [hpins, hvalid])
    rw [List.length_cons, run_succ _ hstep]
    exact ih (s := (s.served s.dueCarrier s.dueAir).endStep) hidle
      (fun q hq => hps q (List.mem_cons_of_mem p hq)) (congrArg List.tail hscript)

/-- Settles O31: without an offer the step is the service's turn, however often it is taken. -/
theorem idleWaits : Obligations.IdleWaits := by
  refine ⟨fun s hidle hrst => ?_, fun ps rest s hidle hscript hps => ?_⟩
  · obtain ⟨hbusy, hopValid⟩ := outputs_of_idle hidle
    refine ⟨hopValid, s.cmdReady_iff.mpr ⟨hidle, hrst⟩, hbusy, fun hvalid => ?_, fun hvalid => ?_⟩
    · exact ⟨_, serviceTurn_due s, step_of_quiet hidle hrst hvalid⟩
    · obtain ⟨c, a, hstep⟩ := step_of_offer hidle hrst hvalid
      exact ⟨_, hstep, rfl⟩
  · obtain ⟨acc, c, a, n, hrun⟩ := run_of_quiet ps hidle hps hscript
    exact ⟨_, hrun, hidle, rfl, rfl, rfl, rfl, rfl, rfl, rfl⟩

end Sys2Proof.Machine
